-- ==== Sys2Proof/Word.lean ====
section
/-! DEFINITION. The word type of QH-CORE-OPS. -/

namespace Sys2Proof

/-- An operation word, and a byte of the telemetry stream: exactly 8 bits (R65, R84). -/
abbrev Byte := BitVec 8

end Sys2Proof
end

