-- ==== Sys2Proof/Syntax.lean ====
section
/-! DEFINITION. The operations of QH-CORE-OPS version 1 (R68): one constructor for each of the 13 rows of
spec/opcode_table.json, and the types of their operands. Each operand type has exactly the values its bit field can
hold, so every term of `Instr` is an operation of the alphabet. -/

namespace Sys2Proof

/-- The two RC input channels: 0 = pitch, 1 = roll (R15). -/
inductive Channel where
  | pitch
  | roll
  deriving DecidableEq, Repr

/-- The four motors, index 0 to 3 (R15). -/
inductive Motor where
  | m0
  | m1
  | m2
  | m3
  deriving DecidableEq, Repr

/-- The direction of a level transition: 0 = rise (low to high), 1 = fall (high to low) (R66, R83). -/
inductive Polarity where
  | rise
  | fall
  deriving DecidableEq, Repr

/-- The logic level of an input pin: 0 = low, 1 = high (R28, R29). -/
inductive Level where
  | low
  | high
  deriving DecidableEq, Repr

/-- One value for each RC channel. -/
structure PerChannel (α : Type) where
  pitch : α
  roll : α
  deriving DecidableEq, Repr

/-- One value for each motor. -/
structure PerMotor (α : Type) where
  m0 : α
  m1 : α
  m2 : α
  m3 : α
  deriving DecidableEq, Repr

/-- The three agents that take steps (R21). -/
inductive Agent where
  /-- ENV: the tick source, the RC pins, the FrameConfig pin and the PWM period boundary. -/
  | env
  /-- CAP: the capture service, the source's interrupt context. -/
  | cap
  /-- SEQ: the control-loop sequencer, the source's cooperative context. -/
  | seq
  deriving DecidableEq, Repr

/-- The operations of QH-CORE-OPS version 1, in the order of the opcode map (R68). -/
inductive Instr where
  /-- One increment of the tick source (R87). -/
  | tick
  /-- A level transition on RC input pin `c` (R88). -/
  | edge (c : Channel) (pol : Polarity)
  /-- One execution of the capture handler for channel `c` (R89). -/
  | svc (c : Channel)
  /-- The environment drives the FrameConfig pin (R109). -/
  | frame (lvl : Level)
  /-- Open the sampling window (R97). -/
  | wopen
  /-- Close the window: snapshot or failsafe (R98). -/
  | wclose
  /-- Map each stabilized width to a percent (R100). -/
  | conv
  /-- Zero the motor percentages (R110). -/
  | mzero
  /-- Mix per the current FrameConfig (R111). -/
  | mix
  /-- Clamp, dead-zone and conversion to duty units (R121). -/
  | apply
  /-- Write PWM duty register `m` (R122). -/
  | dwrite (m : Motor)
  /-- A boundary of the shared PWM carrier period (R123). -/
  | pwmb
  /-- Emit the telemetry line (R139). -/
  | emit
  deriving DecidableEq, Repr

end Sys2Proof
end

