-- ==== Sys2Proof/Config.lean ====
section
/-! DEFINITION. What an implementation fixes: the open parameters of R9 to R14, and the named numeric constants of R16.
Neither ever changes while the block runs (R49). -/

namespace Sys2Proof

/-- The byte sequence that ends a telemetry line: LF, or CR LF (R14). -/
inductive Newline where
  | lf
  | crlf
  deriving DecidableEq, Repr

/-- The open parameters (R9 to R14). "The model takes each parameter below as an argument": here the argument is the
read-only field `cfg` of the state (log entry 1), so a statement about every state is a statement about every choice
of the parameters. `Config.wf` (WellFormed.lean) says which choices the spec admits. -/
structure Config where
  /-- `TICK_W`, the width W of the tick counter and of every timestamp and width register (R9). -/
  tickW : Nat
  /-- `TICK_INIT`, the tick counter's value at reset (R10). -/
  tickInit : Nat
  /-- `DUTY_FULL`, the full scale of the duty units (R11). -/
  dutyFull : Nat
  /-- `DUTY_W`, the width of a duty register (R11). -/
  dutyW : Nat
  /-- `DUTY_INIT[0..3]`, the PWM duties when the loop starts (R12). -/
  dutyInit : PerMotor Nat
  /-- `FRAME_INIT`, the FrameConfig pin's level at reset (R13). -/
  frameInit : Level
  /-- `RC_LVL_INIT[0..1]`, the RC input pins' levels at reset (R13). -/
  rcLvlInit : PerChannel Level
  /-- `NEWLINE`, the line terminator (R14). -/
  newline : Newline
  deriving DecidableEq, Repr

namespace Config

/-- R16 `VALID_LO`: widths at or below it are invalid. -/
def validLo : Nat := 900
/-- R16 `VALID_HI`: widths at or above it are invalid. -/
def validHi : Nat := 2100
/-- R16 `CLAMP_LO`: the lower clamp of a valid width. -/
def clampLo : Nat := 1000
/-- R16 `CLAMP_HI`: the upper clamp of a valid width. -/
def clampHi : Nat := 2000
/-- R16 `CENTER`: the failsafe stabilized width. -/
def center : Nat := 1500
/-- R16 `PCT_DIV`: ticks per percent step. -/
def pctDiv : Nat := 5
/-- R16 `PCT_HALF`: the half-up rounding addend for `PCT_DIV`. -/
def pctHalf : Nat := 2
/-- R16 `PCT_OFF`: the offset subtracted after the division. -/
def pctOff : Nat := 100
/-- R16 `MOTOR_MAX`: the upper clamp of a motor percent. -/
def motorMax : Nat := 100
/-- R16 `DEADZONE`: clamped values below it become 0. -/
def deadzone : Nat := 5
/-- R16 `WINDOW_MS`: the sampling window in milliseconds. Timing only: no rule depends on it (R8, R186). -/
def windowMs : Nat := 40

/-- What `MOTOR` holds after MIX for an exact sum that 16 bits cannot hold: a FREE VALUE, about which nothing is known
(DESIGN CHOICE, safe, log entry 8). R111 says "No overflow is possible", and no run reaches such a sum. -/
opaque motorOverflow : Int → BitVec 16

/-- The parameters of the spec's test vectors (95_test_vectors.md: `TICK_W` = 16, `DUTY_FULL` = 255, `DUTY_W` = 8,
`NEWLINE` = LF, `DUTY_INIT` all 0). For `TICK_INIT`, `FRAME_INIT` and `RC_LVL_INIT` the spec names no common value:
0 and low are this model's DESIGN CHOICE (unsafe, log entry 2). Used by `State.reset` only. -/
def reference : Config where
  tickW := 16
  tickInit := 0
  dutyFull := 255
  dutyW := 8
  dutyInit := ⟨0, 0, 0, 0⟩
  frameInit := .low
  rcLvlInit := ⟨.low, .low⟩
  newline := .lf

end Config

end Sys2Proof
end

