-- ==== Sys2Proof/WellFormed.lean ====
section
/-! DEFINITION. The checks on terms of the model. An operation needs none: the type of each operand of `Instr` has
exactly the values of its bit field (R66, R67: one bit for a channel, a level and a polarity, two bits for a motor), so
no term of `Instr` is outside the alphabet. What can be ill-formed is a choice of the open parameters, and there is
one check for each bound that R9 to R12 state. The check on a trace of operation words (R80) needs the decoder and is
`traceLegal` in Decode.lean. -/

namespace Sys2Proof

namespace Config

/-- R9: `TICK_W >= 12`, so that the validity bound 2100 is representable. -/
def tickWidthOk (c : Config) : Bool := decide (12 ≤ c.tickW)

/-- R10: `TICK_INIT` is any value in `[0, 2^TICK_W)`. -/
def tickInitOk (c : Config) : Bool := decide (c.tickInit < 2 ^ c.tickW)

/-- R11: `DUTY_FULL` is an integer `>= 1`. -/
def dutyFullOk (c : Config) : Bool := decide (1 ≤ c.dutyFull)

/-- R11: `DUTY_FULL <= 2^DUTY_W - 1`. -/
def dutyWidthOk (c : Config) : Bool := decide (c.dutyFull < 2 ^ c.dutyW)

/-- R12: each `DUTY_INIT[m]` is in `[0, DUTY_FULL]`. -/
def dutyInitOk (c : Config) : Bool :=
  decide (c.dutyInit.m0 ≤ c.dutyFull ∧ c.dutyInit.m1 ≤ c.dutyFull ∧
    c.dutyInit.m2 ≤ c.dutyFull ∧ c.dutyInit.m3 ≤ c.dutyFull)

/-- The parameters are ones the spec admits (R9 to R12; R13 and R14 admit every value of their types). -/
def wf (c : Config) : Bool :=
  c.tickWidthOk && c.tickInitOk && c.dutyFullOk && c.dutyWidthOk && c.dutyInitOk

end Config

end Sys2Proof
end

