-- ==== Sys2Proof/Decode.lean ====
section
/-! DEFINITION. The decoder and the encoder of QH-CORE-OPS version 1 (R65 to R82). Every operation is one 8-bit word.
The decoder is total: a word outside the opcode map is named in its verdict. -/

namespace Sys2Proof

/-! ## Operand fields (R66, R67) -/

/-- `c = w[0]`: 0 = pitch, 1 = roll. -/
def Channel.ofWord (w : Byte) : Channel := if w.getLsbD 0 then .roll else .pitch

/-- `lvl = w[0]`: 0 = low, 1 = high. -/
def Level.ofWord (w : Byte) : Level := if w.getLsbD 0 then .high else .low

/-- `pol = w[1]`: 0 = rise, 1 = fall. -/
def Polarity.ofWord (w : Byte) : Polarity := if w.getLsbD 1 then .fall else .rise

/-- `m = w[1:0]`. -/
def Motor.ofWord (w : Byte) : Motor :=
  match w.getLsbD 1, w.getLsbD 0 with
  | false, false => .m0
  | false, true => .m1
  | true, false => .m2
  | true, true => .m3

/-- The channel's number as a field value. -/
def Channel.field : Channel → Byte
  | .pitch => 0#8
  | .roll => 1#8

/-- The level as a field value. -/
def Level.field : Level → Byte
  | .low => 0#8
  | .high => 1#8

/-- The polarity as a field value. -/
def Polarity.field : Polarity → Byte
  | .rise => 0#8
  | .fall => 1#8

/-- The motor's number as a field value. -/
def Motor.field : Motor → Byte
  | .m0 => 0#8
  | .m1 => 1#8
  | .m2 => 2#8
  | .m3 => 3#8

/-! ## The opcode map (R68) -/

/-- One row of the opcode map: a word `w` belongs to it when `(w AND mask) = match`. -/
structure OpcodeRow where
  mnemonic : String
  pattern : Byte
  mask : Byte
  build : Byte → Instr

/-- The word belongs to the row (R68). -/
def OpcodeRow.covers (r : OpcodeRow) (w : Byte) : Bool := (w &&& r.mask) == r.pattern

/-- R68, row for row. -/
def opcodeMap : List OpcodeRow := [
  ⟨"TICK", 0x10#8, 0xFF#8, fun _ => .tick⟩,
  ⟨"EDGE", 0x20#8, 0xFC#8, fun w => .edge (Channel.ofWord w) (Polarity.ofWord w)⟩,
  ⟨"SVC", 0x30#8, 0xFE#8, fun w => .svc (Channel.ofWord w)⟩,
  ⟨"FRAME", 0x40#8, 0xFE#8, fun w => .frame (Level.ofWord w)⟩,
  ⟨"WOPEN", 0x50#8, 0xFF#8, fun _ => .wopen⟩,
  ⟨"WCLOSE", 0x51#8, 0xFF#8, fun _ => .wclose⟩,
  ⟨"CONV", 0x52#8, 0xFF#8, fun _ => .conv⟩,
  ⟨"MZERO", 0x60#8, 0xFF#8, fun _ => .mzero⟩,
  ⟨"MIX", 0x61#8, 0xFF#8, fun _ => .mix⟩,
  ⟨"APPLY", 0x70#8, 0xFF#8, fun _ => .apply⟩,
  ⟨"DWRITE", 0x80#8, 0xFC#8, fun w => .dwrite (Motor.ofWord w)⟩,
  ⟨"PWMB", 0x90#8, 0xFF#8, fun _ => .pwmb⟩,
  ⟨"EMIT", 0xA0#8, 0xFF#8, fun _ => .emit⟩]

/-- The operation a word stands for; `none` for a reserved word (R68, R80). -/
def decodeWord (w : Byte) : Option Instr :=
  (opcodeMap.find? fun r => r.covers w).map fun r => r.build w

/-- The decoder's verdict on a byte sequence: the decoder is total (R80). -/
inductive Verdict where
  /-- The first word is the operation `i`; `rest` follows it. -/
  | legal (i : Instr) (rest : List Byte)
  /-- The first word `w` is reserved: the spec's verdict `Invalid(w)`. -/
  | invalid (w : Byte)
  /-- There is no word to decode. -/
  | noWord
  deriving DecidableEq, Repr

/-- Decode one operation: every operation is one byte (R65, R82). -/
def decode : List Byte → Verdict
  | [] => .noWord
  | w :: rest =>
    match decodeWord w with
    | some i => .legal i rest
    | none => .invalid w

/-- R80: a trace that holds a reserved word is refused; this one holds none. -/
def traceLegal (ws : List Byte) : Bool := ws.all fun w => (decodeWord w).isSome

/-! ## The encoder (R68 to R78) -/

/-- The operation word of an operation. -/
def encodeWord : Instr → Byte
  | .tick => 0x10#8
  | .edge c pol => 0x20#8 ||| (pol.field <<< 1) ||| c.field
  | .svc c => 0x30#8 ||| c.field
  | .frame lvl => 0x40#8 ||| lvl.field
  | .wopen => 0x50#8
  | .wclose => 0x51#8
  | .conv => 0x52#8
  | .mzero => 0x60#8
  | .mix => 0x61#8
  | .apply => 0x70#8
  | .dwrite m => 0x80#8 ||| m.field
  | .pwmb => 0x90#8
  | .emit => 0xA0#8

/-- The bytes of an operation (R65: exactly one). -/
def encode (i : Instr) : List Byte := [encodeWord i]

/-! ## What the alphabet says of each operation -/

/-- R79: which agent performs the operation. -/
def Instr.agent : Instr → Agent
  | .tick => .env
  | .edge _ _ => .env
  | .svc _ => .cap
  | .frame _ => .env
  | .wopen => .seq
  | .wclose => .seq
  | .conv => .seq
  | .mzero => .seq
  | .mix => .seq
  | .apply => .seq
  | .dwrite _ => .seq
  | .pwmb => .env
  | .emit => .seq

/-- The operation's mnemonic, as the opcode map spells it (R68). -/
def Instr.mnemonic : Instr → String
  | .tick => "TICK"
  | .edge _ _ => "EDGE"
  | .svc _ => "SVC"
  | .frame _ => "FRAME"
  | .wopen => "WOPEN"
  | .wclose => "WCLOSE"
  | .conv => "CONV"
  | .mzero => "MZERO"
  | .mix => "MIX"
  | .apply => "APPLY"
  | .dwrite _ => "DWRITE"
  | .pwmb => "PWMB"
  | .emit => "EMIT"

/-- The words an opcode-table row of `nbits` bits with the bits `w` stands for, lowest byte first. -/
def tableBytes (nbits w : Nat) : List Byte :=
  (List.range (nbits / 8)).map fun k => BitVec.ofNat 8 (w / 2 ^ (8 * k))

/-- The operation the decoder reads from an opcode-table word; `none` where it refuses. -/
def decodeTableWord (nbits w : Nat) : Option Instr :=
  match decode (tableBytes nbits w) with
  | .legal i _ => some i
  | .invalid _ => none
  | .noWord => none

end Sys2Proof
end

