-- ==== Sys2Proof/Machine/State.lean ====
section
/-! DEFINITION. The state of QH-CORE and its interfaces (R26), the reasons a step can stop, and the state after
reset (R168, R169). QH-CORE has no addressable memory (R50), so State holds none. -/

namespace Sys2Proof.Machine

/-- A channel's edge phase (R33): 0 = AwaitingRisingEdge, 1 = AwaitingFallingEdge. -/
inductive EdgePhase where
  | awaitingRising
  | awaitingFalling
  deriving DecidableEq, Repr

/-- The sequencer's states (R42): OPEN 0, WAIT 1, CONVERT 2, ZERO 3, MIX 4, APPLY 5, WRITE 6, EMIT 7. -/
inductive SeqState where
  | atOpen
  | atWait
  | atConvert
  | atZero
  | atMix
  | atApply
  | atWrite
  | atEmit
  deriving DecidableEq, Repr

/-- The state of QH-CORE: the elements S0 to S16 of R26, then the two fields that stand for what R49 calls "not
state": the parameters, and the schedule of operations.

An element whose width is a parameter (`TICK_W` or `DUTY_W`) is an unsigned integer (R17); that it stays below 2 to
its width is the invariant `Safety.WidthsOk` (log entry 7). Elements of a fixed width are bit vectors. -/
structure State where
  /-- S0 `TICK`, u `TICK_W`: the tick source's counter (R27). -/
  tick : Nat
  /-- S1 `RC_LVL[0..1]`: the RC input pins' levels (R28). -/
  rcLvl : PerChannel Level
  /-- S2 `PHASE[0..1]`: the channels' edge phases (R33). -/
  phase : PerChannel EdgePhase
  /-- S3 `START_TS[0..1]`, u `TICK_W`: the tick at the last rising service (R34). -/
  startTs : PerChannel Nat
  /-- S4 `RAW_W[0..1]`, u `TICK_W`: the raw pulse widths (R35). -/
  rawW : PerChannel Nat
  /-- S5 `LIVE`: the block's one liveness flag (R39). -/
  live : Bool
  /-- S6 `PEND[0..1]`: the channels' interrupt conditions (R36). -/
  pend : PerChannel Bool
  /-- S7 `STAB_W[0..1]`, u `TICK_W`: the stabilized widths (R37). -/
  stabW : PerChannel Nat
  /-- S8 `PCT[0..1]`, s 8: the percents (R38). -/
  pct : PerChannel (BitVec 8)
  /-- S9 `MOTOR[0..3]`, s 16: the mixer's output percents (R40). -/
  motor : PerMotor (BitVec 16)
  /-- S10 `DCMD[0..3]`, u `DUTY_W`: the duty commands (R41). -/
  dcmd : PerMotor Nat
  /-- S11 `SEQ`, 3 bits: the sequencer's state (R42). -/
  seq : SeqState
  /-- S12 `WMASK`, 4 bits: bit m is 1 once duty register m is written in this cycle (R43). -/
  wmask : BitVec 4
  /-- S13 `FRAME_PIN`: the FrameConfig pin's level, high = Plus, low = X (R29). -/
  framePin : Level
  /-- S14 `DUTY_REG[0..3]`, u `DUTY_W`: the PWM duty registers (R30). -/
  dutyReg : PerMotor Nat
  /-- S15 `DUTY_ACT[0..3]`, u `DUTY_W`: the duties the PWM outputs drive (R31). -/
  dutyAct : PerMotor Nat
  /-- S16 `TLM`: the telemetry bytes emitted so far (R32). -/
  tlm : List Byte
  /-- The parameters of R9 to R14. No operation changes them (R49, log entry 1). -/
  cfg : Config
  /-- The operation words still to be performed, next word first: the schedule of R49 and R65, which interleaves
  the three agents. The model's own field (log entry 4). -/
  trace : List Byte
  deriving DecidableEq, Repr

/-- The faults of the machine: there is none. R146: "A model therefore has no fault outcome for any enabled
operation". Nobody raises a fault, so nothing about one is safe or unsafe. -/
inductive Fault : Type where
  deriving DecidableEq, Repr

/-- Why a step has no next state. Every refusal is safe: it removes a run, it never adds one. -/
inductive Refusal where
  /-- An instruction without a meaning, raised by `exec` only. No arm of this model raises it. Safe. -/
  | notModelled (mnemonic : String)
  /-- The operation's enabling condition is false in this state: R20 (b), "the step relation has no step for it in
  this state". Row 19 of 93_implementation_defined.md: "refuse (no step in that state)". Raised by the meaning of every
  operation that has an enabling condition. Safe. -/
  | disabled (i : Instr)
  /-- The next word of the trace is reserved: R80, "A model refuses a trace that contains one". Raised by `step`.
  Safe. -/
  | reservedWord (w : Byte)
  /-- The trace holds no further operation word, so no step is named. Raised by `step`. Safe (log entry 6). -/
  | traceEnd
  deriving DecidableEq, Repr

/-- The reset table of R169: what holds of every state a run starts in (R168). An element the table marks
"unspecified" (`START_TS`, `STAB_W`, `PCT`, `MOTOR`, `DCMD`) "may hold any value of its type at reset": the last three
lines say so for the elements whose type is a range of numbers. The schedule is not state (R49) and is not
mentioned. -/
abbrev State.IsReset (s : State) : Prop :=
  s.cfg.wf = true ∧
  s.tick = s.cfg.tickInit ∧
  s.rcLvl = s.cfg.rcLvlInit ∧
  s.phase = ⟨.awaitingRising, .awaitingRising⟩ ∧
  s.rawW = ⟨0, 0⟩ ∧
  s.live = false ∧
  s.pend = ⟨false, false⟩ ∧
  s.seq = .atOpen ∧
  s.wmask = 0#4 ∧
  s.framePin = s.cfg.frameInit ∧
  s.dutyReg = s.cfg.dutyInit ∧
  s.dutyAct = s.cfg.dutyInit ∧
  s.tlm = [] ∧
  (s.startTs.pitch < 2 ^ s.cfg.tickW ∧ s.startTs.roll < 2 ^ s.cfg.tickW) ∧
  (s.stabW.pitch < 2 ^ s.cfg.tickW ∧ s.stabW.roll < 2 ^ s.cfg.tickW) ∧
  (s.dcmd.m0 < 2 ^ s.cfg.dutyW ∧ s.dcmd.m1 < 2 ^ s.cfg.dutyW ∧
    s.dcmd.m2 < 2 ^ s.cfg.dutyW ∧ s.dcmd.m3 < 2 ^ s.cfg.dutyW)

/-- The reset state for given parameters. The unspecified elements are 0 (DESIGN CHOICE, unsafe, log entry 3), and no
word is scheduled. -/
def State.resetWith (cfg : Config) : State where
  tick := cfg.tickInit
  rcLvl := cfg.rcLvlInit
  phase := ⟨.awaitingRising, .awaitingRising⟩
  startTs := ⟨0, 0⟩
  rawW := ⟨0, 0⟩
  live := false
  pend := ⟨false, false⟩
  stabW := ⟨0, 0⟩
  pct := ⟨0#8, 0#8⟩
  motor := ⟨0#16, 0#16, 0#16, 0#16⟩
  dcmd := ⟨0, 0, 0, 0⟩
  seq := .atOpen
  wmask := 0#4
  framePin := cfg.frameInit
  dutyReg := cfg.dutyInit
  dutyAct := cfg.dutyInit
  tlm := []
  cfg := cfg
  trace := []

/-- The machine right after reset (R168, R169), with the reference parameters (DESIGN CHOICE, unsafe, log entry 2:
the spec leaves them open, so no statement rests on them; statements about reset range over `State.IsReset`). -/
def State.reset : State := State.resetWith Config.reference

end Sys2Proof.Machine
end

