-- ==== Sys2Proof/Machine/Ops.lean ====
section
/-! DEFINITION. The named operations on the state elements (R19), and the parts of a step that every operation
shares: the enabling condition (R20), entry to and return from a service (R155, R156), and the fetch of the next
operation word from the schedule (R65). -/

namespace Sys2Proof

/-! ## Reading and writing indexed elements (R19: `F[i]`) -/

/-- Element `c` of a per-channel element. -/
def PerChannel.get {α : Type} (x : PerChannel α) (c : Channel) : α :=
  match c with
  | .pitch => x.pitch
  | .roll => x.roll

/-- The element with entry `c` replaced. -/
def PerChannel.set {α : Type} (x : PerChannel α) (c : Channel) (v : α) : PerChannel α :=
  match c with
  | .pitch => { x with pitch := v }
  | .roll => { x with roll := v }

/-- A function applied to both channels. -/
def PerChannel.map {α β : Type} (f : α → β) (x : PerChannel α) : PerChannel β := ⟨f x.pitch, f x.roll⟩

/-- Element `m` of a per-motor element. -/
def PerMotor.get {α : Type} (x : PerMotor α) (m : Motor) : α :=
  match m with
  | .m0 => x.m0
  | .m1 => x.m1
  | .m2 => x.m2
  | .m3 => x.m3

/-- The element with entry `m` replaced. -/
def PerMotor.set {α : Type} (x : PerMotor α) (m : Motor) (v : α) : PerMotor α :=
  match m with
  | .m0 => { x with m0 := v }
  | .m1 => { x with m1 := v }
  | .m2 => { x with m2 := v }
  | .m3 => { x with m3 := v }

/-- A function applied to all four motors. -/
def PerMotor.map {α β : Type} (f : α → β) (x : PerMotor α) : PerMotor β := ⟨f x.m0, f x.m1, f x.m2, f x.m3⟩

namespace Machine

/-! ## Writes of one element (R19: `F <- v`) -/

/-- `TICK <- v`. -/
def State.setTick (s : State) (v : Nat) : State := { s with tick := v }

/-- `RC_LVL[c] <- v`. -/
def State.setRcLvl (s : State) (c : Channel) (v : Level) : State := { s with rcLvl := s.rcLvl.set c v }

/-- `PHASE[c] <- v`. -/
def State.setPhase (s : State) (c : Channel) (v : EdgePhase) : State := { s with phase := s.phase.set c v }

/-- `START_TS[c] <- v`. -/
def State.setStartTs (s : State) (c : Channel) (v : Nat) : State := { s with startTs := s.startTs.set c v }

/-- `RAW_W[c] <- v`. -/
def State.setRawW (s : State) (c : Channel) (v : Nat) : State := { s with rawW := s.rawW.set c v }

/-- `LIVE <- v`. -/
def State.setLive (s : State) (v : Bool) : State := { s with live := v }

/-- `PEND[c] <- v`. -/
def State.setPend (s : State) (c : Channel) (v : Bool) : State := { s with pend := s.pend.set c v }

/-- `STAB_W[0..1] <- v`. -/
def State.setStabW (s : State) (v : PerChannel Nat) : State := { s with stabW := v }

/-- `PCT[0..1] <- v`. -/
def State.setPct (s : State) (v : PerChannel (BitVec 8)) : State := { s with pct := v }

/-- `MOTOR[0..3] <- v`. -/
def State.setMotor (s : State) (v : PerMotor (BitVec 16)) : State := { s with motor := v }

/-- `DCMD[0..3] <- v`. -/
def State.setDcmd (s : State) (v : PerMotor Nat) : State := { s with dcmd := v }

/-- `SEQ <- v`. -/
def State.setSeq (s : State) (v : SeqState) : State := { s with seq := v }

/-- `WMASK <- v`. -/
def State.setWmask (s : State) (v : BitVec 4) : State := { s with wmask := v }

/-- `FRAME_PIN <- v`. -/
def State.setFramePin (s : State) (v : Level) : State := { s with framePin := v }

/-- `DutyWrite(m, v)`: the write of `v` to PWM duty register `m` (R19, R55). -/
def State.dutyWrite (s : State) (m : Motor) (v : Nat) : State := { s with dutyReg := s.dutyReg.set m v }

/-- `DUTY_ACT[0..3] <- v`. -/
def State.setDutyAct (s : State) (v : PerMotor Nat) : State := { s with dutyAct := v }

/-- `TlmAppend(bytes)` (R19, R55). -/
def State.tlmAppend (s : State) (bytes : List Byte) : State := { s with tlm := s.tlm ++ bytes }

/-- The schedule of operation words still to be performed. -/
def State.setTrace (s : State) (ws : List Byte) : State := { s with trace := ws }

/-! ## The enabling condition (R20) -/

/-- An operation is one atomic step to `t` where its enabling condition holds; where it does not, there is no step
and the state is unchanged (R20 (a), (b); refused by name as 93_implementation_defined.md row 19 says). -/
def attempt (i : Instr) (enabled : Bool) (t : State) : Host.Outcome State Fault Refusal :=
  if enabled then .next t else .refused (.disabled i)

/-! ## Interrupt service: entry and return

QH-CORE raises no synchronous exception (R146). What interrupts is the edge of an RC line, and taking that interrupt
is the `SVC c` step (R155). -/

/-- Service entry (R155): "Entry saves no QH-CORE state, changes no mode and no mask, and uses no stack or vector
table". The state the handler's body starts in is the state before the step. -/
def State.serviceEnter (s : State) : State := s

/-- Service return (R156): restores nothing and re-enables nothing; "The one act at return is the clear of
`PEND[c]`". -/
def State.serviceReturn (s : State) (c : Channel) : State := s.setPend c false

/-- Taking the service of channel `c`: entry, the handler's body, return, all in one step (R155 to R157). -/
def takeService (c : Channel) (body : State → State) (s : State) : State :=
  (body s.serviceEnter).serviceReturn c

/-! ## The schedule (R49, R65) -/

/-- Decode the next operation word of the schedule. -/
def State.fetch (s : State) : Verdict := decode s.trace

/-- Move past the word just fetched: `rest` is what follows it. -/
def State.consume (s : State) (rest : List Byte) : State := s.setTrace rest

/-- Put the word `w` where the next step fetches, in place of the word that stands there. -/
def State.placeWord (s : State) (w : Byte) : State := s.setTrace (w :: s.trace.drop 1)

end Machine

end Sys2Proof
end

