-- ==== Sys2Proof/Machine/Operands.lean ====
section
/-! DEFINITION. The arithmetic of the operations: every function computes on mathematical integers, exactly, and
narrows once, where its result is stored (R17, R18, D27). -/

namespace Sys2Proof.Machine

/-! ## Primitives (R17, R18) -/

/-- `u_N(x) = x mod 2^N`, with `mod` the non-negative remainder (R17). -/
def uN (n : Nat) (x : Int) : Nat := (x % ((2 ^ n : Nat) : Int)).toNat

/-- `clamp(lo, hi, x) = min(hi, max(lo, x))` (R18). -/
def clamp (lo hi x : Int) : Int := min hi (max lo x)

/-! ## Capture (R87, R90) -/

/-- The tick counter after one increment, from `2^W - 1` to 0 (R87). -/
def tickSucc (cfg : Config) (tick : Nat) : Nat := uN cfg.tickW ((tick : Int) + 1)

/-- The wraparound-safe width `(falling_ts - rising_ts) mod 2^W` (R89, R90). -/
def pulseWidth (cfg : Config) (rising falling : Nat) : Nat := uN cfg.tickW ((falling : Int) - (rising : Int))

/-! ## Sampler (R99) -/

/-- `percent(w)` (R99). The dividend is not negative, so `/` is the exact floor (R18). -/
def percent (w : Nat) : Int :=
  if w ≤ Config.validLo ∨ Config.validHi ≤ w then 0
  else
    (clamp Config.clampLo Config.clampHi w - Config.clampLo + Config.pctHalf) / Config.pctDiv - Config.pctOff

/-- A percent as the 8-bit two's complement value `PCT` holds (R38). Every percent fits (R101). -/
def storePct (v : Int) : BitVec 8 := BitVec.ofInt 8 v

/-! ## Mixer (R111 to R113) -/

/-- `plus_mix`, the pitch rows: motor 2 for `p >= 0`, motor 0 for `p < 0` (R112). -/
def plusPitch (acc : PerMotor Int) (p : Int) : PerMotor Int :=
  if 0 ≤ p then acc.set .m2 p else acc.set .m0 (-p)

/-- `plus_mix`, the roll rows: motor 3 for `r >= 0`, motor 1 for `r < 0` (R112). -/
def plusRoll (acc : PerMotor Int) (r : Int) : PerMotor Int :=
  if 0 ≤ r then acc.set .m3 r else acc.set .m1 (-r)

/-- `plus_mix(acc, p, r)`, the Plus frame: each row overwrites (R112, R114). -/
def plusMix (acc : PerMotor Int) (p r : Int) : PerMotor Int := plusRoll (plusPitch acc p) r

/-- `x_mix`, the pitch rows: motors 2 and 3 for `p >= 0`, motors 0 and 1 for `p < 0` (R113). -/
def xPitch (acc : PerMotor Int) (p : Int) : PerMotor Int :=
  if 0 ≤ p then (acc.set .m2 (acc.m2 + p)).set .m3 (acc.m3 + p)
  else (acc.set .m0 (acc.m0 + -p)).set .m1 (acc.m1 + -p)

/-- `x_mix`, the roll rows: motors 0 and 3 for `r >= 0`, motors 1 and 2 for `r < 0` (R113). -/
def xRoll (acc : PerMotor Int) (r : Int) : PerMotor Int :=
  if 0 ≤ r then (acc.set .m0 (acc.m0 + r)).set .m3 (acc.m3 + r)
  else (acc.set .m1 (acc.m1 + -r)).set .m2 (acc.m2 + -r)

/-- `x_mix(acc, p, r)`, the X frame: each row adds, pitch first (R113). -/
def xMix (acc : PerMotor Int) (p r : Int) : PerMotor Int := xRoll (xPitch acc p) r

/-- The mix of the frame the pin level selects: high = Plus, low = X (R29, R111). -/
def mixFrame (frame : Level) (acc : PerMotor Int) (p r : Int) : PerMotor Int :=
  match frame with
  | .high => plusMix acc p r
  | .low => xMix acc p r

/-- A motor percent as the 16-bit two's complement value `MOTOR` holds (R40). A number that 16 bits cannot hold, which
the spec gives no result for, leaves a free value (log entry 8). -/
def storeMotor (v : Int) : BitVec 16 :=
  if -32768 ≤ v ∧ v ≤ 32767 then BitVec.ofInt 16 v else Config.motorOverflow v

/-! ## Applier (R125, R126) -/

/-- `shape(x)`: the clamp to `[0, MOTOR_MAX]`, then the dead-zone on the clamped value (R125). -/
def shape (x : Int) : Int :=
  if clamp 0 Config.motorMax x < Config.deadzone then 0 else clamp 0 Config.motorMax x

/-- `duty(v) = (v * DUTY_FULL + 50) div 100`: `v * K` rounded half up (R126). -/
def duty (cfg : Config) (v : Int) : Nat := ((v * (cfg.dutyFull : Int) + 50) / 100).toNat

/-! ## Telemetry (R84, R140, R141) -/

/-- The ASCII code of the decimal digit `d` (R84). -/
def digitByte (d : Nat) : Byte := BitVec.ofNat 8 (0x30 + d)

/-- The decimal digits of `n`, most significant first; `fuel` bounds their number. -/
def decDigits : Nat → Nat → List Byte
  | 0, _ => []
  | fuel + 1, n => if n < 10 then [digitByte n] else decDigits fuel (n / 10) ++ [digitByte (n % 10)]

/-- `dec(n)`: the base-10 numeral of `n`, without leading zeros, and "0" for 0 (R141). -/
def dec (n : Nat) : List Byte := decDigits (n + 1) n

/-- `sdec(v)`: `"-" ++ dec(-v)` for `v < 0`, and `dec(v)` otherwise (R141). -/
def sdec (v : Int) : List Byte := if v < 0 then 0x2D#8 :: dec (-v).toNat else dec v.toNat

/-- The bytes of `NEWLINE` (R14, R84). -/
def newlineBytes : Newline → List Byte
  | .lf => [0x0A#8]
  | .crlf => [0x0D#8, 0x0A#8]

/-- One channel's item: the stabilized width, a comma, the percent, a space (R140). -/
def tlmItem (w : Nat) (p : Int) : List Byte := dec w ++ [0x2C#8] ++ sdec p ++ [0x20#8]

/-- `tlm_line(STAB_W, PCT)`: pitch, then roll, then `NEWLINE` (R140). -/
def tlmLine (cfg : Config) (stab : PerChannel Nat) (pct : PerChannel (BitVec 8)) : List Byte :=
  tlmItem stab.pitch pct.pitch.toInt ++ tlmItem stab.roll pct.roll.toInt ++ newlineBytes cfg.newline

end Sys2Proof.Machine
end

