-- ==== Sys2Proof/Machine/Flags.lean ====
section
/-! DEFINITION. The flags (R46: `LIVE` and `PEND`), the edge detectors that set `PEND` (R149), the write mask (R43)
and the encodings of the two enumerated elements (R33, R42). -/

namespace Sys2Proof.Machine

/-! ## Edge detectors (R88, R149) -/

/-- The pin's level before a transition: a pin rises only when low and falls only when high (R88). -/
def levelBefore : Polarity → Level
  | .rise => .low
  | .fall => .high

/-- The pin's level after a transition (R88). -/
def levelAfter : Polarity → Level
  | .rise => .high
  | .fall => .low

/-- The channel's armed polarity: rise in phase 0, fall in phase 1 (R24, R33). -/
def armedPolarity : EdgePhase → Polarity
  | .awaitingRising => .rise
  | .awaitingFalling => .fall

/-- A transition is recognized exactly when its polarity is the armed one (R88, R149). -/
def recognized (phase : EdgePhase) (pol : Polarity) : Bool := decide (pol = armedPolarity phase)

/-- The interrupt condition after a transition: set by a recognized one, and already set it stays so (R88). -/
def pendAfterEdge (phase : EdgePhase) (pol : Polarity) (pend : Bool) : Bool := recognized phase pol || pend

/-! ## The write mask (R43, R122) -/

/-- A motor's bit number in `WMASK`. -/
def motorBit : Motor → Nat
  | .m0 => 0
  | .m1 => 1
  | .m2 => 2
  | .m3 => 3

/-- `WMASK[m]`. -/
def maskHas (mask : BitVec 4) (m : Motor) : Bool := mask.getLsbD (motorBit m)

/-- `WMASK with bit m set`. -/
def maskWith (mask : BitVec 4) (m : Motor) : BitVec 4 := mask ||| (1#4 <<< motorBit m)

/-- `mask = 0b1111`. -/
def maskFull (mask : BitVec 4) : Bool := mask == 0b1111#4

/-! ## Bit values of the enumerated elements -/

/-- The bit of a pin level: 0 = low, 1 = high (R28, R29). -/
def levelBit : Level → Nat
  | .low => 0
  | .high => 1

/-- The bit of an edge phase (R33, R83). -/
def phaseBit : EdgePhase → Nat
  | .awaitingRising => 0
  | .awaitingFalling => 1

/-- The 3-bit code of a sequencer state (R42, R83). -/
def seqCode : SeqState → BitVec 3
  | .atOpen => 0#3
  | .atWait => 1#3
  | .atConvert => 2#3
  | .atZero => 3#3
  | .atMix => 4#3
  | .atApply => 5#3
  | .atWrite => 6#3
  | .atEmit => 7#3

/-- The sequencer state of a 3-bit code. Every code is a state (R42). -/
def seqOfCode (v : BitVec 3) : SeqState :=
  if v = 0#3 then .atOpen else if v = 1#3 then .atWait else if v = 2#3 then .atConvert
  else if v = 3#3 then .atZero else if v = 4#3 then .atMix else if v = 5#3 then .atApply
  else if v = 6#3 then .atWrite else .atEmit

end Sys2Proof.Machine
end

