-- ==== Sys2Proof/Machine/Applier.lean ====
section
/-! DEFINITION. The Duty Applier operations: APPLY, DWRITE and PWMB (43_applier.md). -/

namespace Sys2Proof.Machine

/-- `APPLY` (R121): enabled in APPLY; every duty command from its own motor percent, and an empty write mask. -/
def execApply (s : State) : Host.Outcome State Fault Refusal :=
  attempt .apply (decide (s.seq = .atApply))
    (((s.setDcmd (s.motor.map fun v => duty s.cfg (shape v.toInt))).setWmask 0b0000#4).setSeq .atWrite)

/-- `DWRITE m` (R122): enabled in WRITE while register `m` is not yet written in this cycle. The last of the four
writes moves `SEQ` to EMIT. -/
def execDwrite (m : Motor) (s : State) : Host.Outcome State Fault Refusal :=
  attempt (.dwrite m) (decide (s.seq = .atWrite) && !maskHas s.wmask m)
    (((s.dutyWrite m (s.dcmd.get m)).setWmask (maskWith s.wmask m)).setSeq
      (if maskFull (maskWith s.wmask m) then .atEmit else s.seq))

/-- `PWMB` (R123): always enabled; all four active duties are latched in one step. -/
def execPwmb (s : State) : Host.Outcome State Fault Refusal :=
  attempt .pwmb true (s.setDutyAct s.dutyReg)

end Sys2Proof.Machine
end

