-- ==== Sys2Proof/Machine/Capture.lean ====
section
/-! DEFINITION. The Pulse Capture operations: TICK, EDGE and SVC (40_capture.md). -/

namespace Sys2Proof.Machine

/-- `TICK` (R87): always enabled; `TICK <- u_W(TICK + 1)`. -/
def execTick (s : State) : Host.Outcome State Fault Refusal :=
  attempt .tick true (s.setTick (tickSucc s.cfg s.tick))

/-- `EDGE c, pol` (R88): enabled when the pin is at the level the transition starts from. The level changes, and a
transition of the armed polarity sets `PEND[c]`. -/
def execEdge (c : Channel) (pol : Polarity) (s : State) : Host.Outcome State Fault Refusal :=
  attempt (.edge c pol) (decide (s.rcLvl.get c = levelBefore pol))
    ((s.setRcLvl c (levelAfter pol)).setPend c (pendAfterEdge (s.phase.get c) pol (s.pend.get c)))

/-- The body of the capture handler, steps 2 to 4 (R89): a rising service stamps the tick and arms for the falling
edge; a falling service measures the width and arms for the rising edge; both set `LIVE`. -/
def captureBody (c : Channel) (s : State) : State :=
  match s.phase.get c with
  | .awaitingRising => ((s.setStartTs c s.tick).setPhase c .awaitingFalling).setLive true
  | .awaitingFalling =>
    ((s.setRawW c (pulseWidth s.cfg (s.startTs.get c) s.tick)).setPhase c .awaitingRising).setLive true

/-- `SVC c` (R89): enabled when `PEND[c] = 1`; one execution of the capture handler, whose last act clears
`PEND[c]`. -/
def execSvc (c : Channel) (s : State) : Host.Outcome State Fault Refusal :=
  attempt (.svc c) (s.pend.get c) (takeService c (captureBody c) s)

end Sys2Proof.Machine
end

