-- ==== Sys2Proof/Machine/Mixer.lean ====
section
/-! DEFINITION. The Motor Mixer operations: FRAME, MZERO and MIX (42_mixer.md). -/

namespace Sys2Proof.Machine

/-- `FRAME lvl` (R109): always enabled; the environment drives the FrameConfig pin. -/
def execFrame (lvl : Level) (s : State) : Host.Outcome State Fault Refusal :=
  attempt (.frame lvl) true (s.setFramePin lvl)

/-- `MZERO` (R110): enabled in ZERO; all four motor percentages become 0. -/
def execMzero (s : State) : Host.Outcome State Fault Refusal :=
  attempt .mzero (decide (s.seq = .atZero)) ((s.setMotor ⟨0#16, 0#16, 0#16, 0#16⟩).setSeq .atMix)

/-- The motor percentages after the mix of the current frame (R111), from the values `MOTOR` holds. -/
def mixedMotors (s : State) : PerMotor (BitVec 16) :=
  (mixFrame s.framePin (s.motor.map fun v => v.toInt) s.pct.pitch.toInt s.pct.roll.toInt).map storeMotor

/-- `MIX` (R111): enabled in MIX; `FRAME_PIN` is read once, here. -/
def execMix (s : State) : Host.Outcome State Fault Refusal :=
  attempt .mix (decide (s.seq = .atMix)) ((s.setMotor (mixedMotors s)).setSeq .atApply)

end Sys2Proof.Machine
end

