-- ==== Sys2Proof/Machine/Sampler.lean ====
section
/-! DEFINITION. The Pulse Sampler operations: WOPEN, WCLOSE and CONV (41_sampler.md). -/

namespace Sys2Proof.Machine

/-- `WOPEN` (R97): enabled in OPEN; clears `LIVE` and starts the window. -/
def execWopen (s : State) : Host.Outcome State Fault Refusal :=
  attempt .wopen (decide (s.seq = .atOpen)) ((s.setLive false).setSeq .atWait)

/-- The snapshot (R98): both raw widths when an edge was seen in the window, and the centre width otherwise. -/
def snapshot (live : Bool) (raw : PerChannel Nat) : PerChannel Nat :=
  if live then raw else ⟨Config.center, Config.center⟩

/-- `WCLOSE` (R98): enabled in WAIT; the test of `LIVE` and the copy of both widths are one step (R58). -/
def execWclose (s : State) : Host.Outcome State Fault Refusal :=
  attempt .wclose (decide (s.seq = .atWait)) ((s.setStabW (snapshot s.live s.rawW)).setSeq .atConvert)

/-- `CONV` (R100): enabled in CONVERT; each percent from its own stabilized width. -/
def execConv (s : State) : Host.Outcome State Fault Refusal :=
  attempt .conv (decide (s.seq = .atConvert))
    ((s.setPct (s.stabW.map fun w => storePct (percent w))).setSeq .atZero)

end Sys2Proof.Machine
end

