-- ==== Sys2Proof/Machine/Telemetry.lean ====
section
/-! DEFINITION. The telemetry operation: EMIT (44_control_loop.md). -/

namespace Sys2Proof.Machine

/-- `EMIT` (R139): enabled in EMIT; appends one whole line and starts the next cycle. -/
def execEmit (s : State) : Host.Outcome State Fault Refusal :=
  attempt .emit (decide (s.seq = .atEmit)) ((s.tlmAppend (tlmLine s.cfg s.stabW s.pct)).setSeq .atOpen)

end Sys2Proof.Machine
end

