-- ==== Sys2Proof/Machine/Dispatch.lean ====
section
/-! DEFINITION. One arm for each operation of the opcode map (R68). -/

namespace Sys2Proof.Machine

def exec (i : Instr) (s : State) : Host.Outcome State Fault Refusal :=
  match i with
  | .tick => Sys2Proof.Machine.execTick s
  | .edge c pol => Sys2Proof.Machine.execEdge c pol s
  | .svc c => Sys2Proof.Machine.execSvc c s
  | .frame lvl => Sys2Proof.Machine.execFrame lvl s
  | .wopen => Sys2Proof.Machine.execWopen s
  | .wclose => Sys2Proof.Machine.execWclose s
  | .conv => Sys2Proof.Machine.execConv s
  | .mzero => Sys2Proof.Machine.execMzero s
  | .mix => Sys2Proof.Machine.execMix s
  | .apply => Sys2Proof.Machine.execApply s
  | .dwrite m => Sys2Proof.Machine.execDwrite m s
  | .pwmb => Sys2Proof.Machine.execPwmb s
  | .emit => Sys2Proof.Machine.execEmit s

end Sys2Proof.Machine
end

