-- ==== Sys2Proof/Machine/Select.lean ====
section
/-! DEFINITION. Putting one operation where the next step runs it (log entry 5). QH-CORE fetches nothing (R63): which
operation can come next is selected by the machine's own state, `SEQ` for the sequencer ("the block's analogue of a
program counter", R42), `PEND[c]` for a service (R36) and the pin level for an edge (R28). -/

namespace Sys2Proof.Machine

/-- `s` with what selects the operation `i` as a possible next step: its enabling condition made true, nothing
else. -/
def State.selectFor (s : State) : Instr → State
  | .tick => s
  | .edge c pol => s.setRcLvl c (levelBefore pol)
  | .svc c => s.setPend c true
  | .frame _ => s
  | .wopen => s.setSeq .atOpen
  | .wclose => s.setSeq .atWait
  | .conv => s.setSeq .atConvert
  | .mzero => s.setSeq .atZero
  | .mix => s.setSeq .atMix
  | .apply => s.setSeq .atApply
  | .dwrite m => (s.setSeq .atWrite).setWmask (s.wmask &&& ~~~ (1#4 <<< motorBit m))
  | .pwmb => s
  | .emit => s.setSeq .atEmit

/-- `s` with the word `w` as the next word of the schedule, and the operation it stands for selected. -/
def State.readyWord (s : State) (w : Byte) : State :=
  match decodeWord w with
  | some i => (s.selectFor i).placeWord w
  | none => s.placeWord w

end Sys2Proof.Machine
end

