-- ==== Sys2Proof/Machine/Step.lean ====
section
/-! DEFINITION. One step of the machine: the next operation of the schedule (R57, R65). -/

namespace Sys2Proof.Machine

/-- One step: the next word of the schedule is decoded and its operation performed, whichever agent it belongs to
(R21, R57). A reserved word refuses the trace (R80), and so does the end of the trace (log entry 6). -/
def step (s : State) : Host.Outcome State Fault Refusal :=
  match s.fetch with
  | .legal i rest => exec i (s.consume rest)
  | .invalid w => .refused (.reservedWord w)
  | .noWord => .refused .traceEnd

/-- `s` with the operation of an opcode-table word ready as the next step (log entry 5). -/
def State.withFetchWord (s : State) (nbits w : Nat) : State := s.readyWord (BitVec.ofNat 8 (w % 2 ^ nbits))

end Sys2Proof.Machine
end

