-- ==== Sys2Proof/Machine/Run.lean ====
section
/-! DEFINITION. Sequences of operations (R57, R65) and the pseudo-operations of R86. -/

namespace Sys2Proof.Machine

/-- Perform operations one after the other, stopping at the first that has no step: a run is a sequence of atomic
steps, each reading the state that all earlier ones left (R57). -/
def perform : List Instr → State → Host.Outcome State Fault Refusal
  | [], s => .next s
  | i :: is, s =>
    match exec i s with
    | .next t => perform is t
    | .fault r => .fault r
    | .refused r => .refused r

/-- `TICKS n`: n copies of `TICK` (R86). -/
def ticks (n : Nat) : List Instr := List.replicate n .tick

/-- `PULSE c, n` (R86). -/
def pulse (c : Channel) (n : Nat) : List Instr :=
  [.edge c .rise, .svc c] ++ ticks n ++ [.edge c .fall, .svc c]

/-- `TAIL`: the rest of one cycle after the window, with the duty writes in index order (R86). -/
def tailOps : List Instr :=
  [.wclose, .conv, .mzero, .mix, .apply, .dwrite .m0, .dwrite .m1, .dwrite .m2, .dwrite .m3, .emit]

/-- The steps of a sequence that SEQ takes (R79). -/
def seqSteps (is : List Instr) : List Instr := is.filter fun i => decide (i.agent = .seq)

end Sys2Proof.Machine
end

