-- ==== Sys2Proof/Machine/Assembler.lean ====
section
/-! DEFINITION. The trace syntax of R85, with the pseudo-operations of R86: text in, operations out. It is a notation
for schedules, not a part of the block ("a model's trace of operation words is the model's own instrument", R166).
What R85 leaves open (white space, the case of operand words) is log entry 10. -/

namespace Sys2Proof.Machine

/-- R85: "A `#` starts a comment that runs to the end of the line". The flag says we are inside a comment. -/
def stripComments : Bool → List Char → List Char
  | _, [] => []
  | true, ch :: rest => if ch = '\n' then ch :: stripComments false rest else stripComments true rest
  | false, ch :: rest => if ch = '#' then stripComments true rest else ch :: stripComments false rest

/-- R85: operations are written "one operation per line or separated by `;`". -/
def splitStatements : List Char → List Char → List (List Char)
  | cur, [] => [cur.reverse]
  | cur, ch :: rest =>
    if ch = '\n' ∨ ch = ';' then cur.reverse :: splitStatements [] rest else splitStatements (ch :: cur) rest

/-- The token gathered so far, if it is not empty. -/
def flushToken (cur : List Char) : List (List Char) := if cur.isEmpty then [] else [cur.reverse]

/-- The tokens of one statement: words and commas, white space between them, letters in lower case. -/
def tokens : List Char → List Char → List (List Char)
  | cur, [] => flushToken cur
  | cur, ch :: rest =>
    if ch = ' ' ∨ ch = '\t' ∨ ch = '\r' then flushToken cur ++ tokens [] rest
    else if ch = ',' then flushToken cur ++ [','] :: tokens [] rest
    else tokens (ch.toLower :: cur) rest

/-- A decimal number, from its digits with the value `acc` read before them. -/
def numberFrom : Nat → List Char → Option Nat
  | acc, [] => some acc
  | acc, ch :: rest =>
    if '0' ≤ ch ∧ ch ≤ '9' then numberFrom (10 * acc + (ch.toNat - '0'.toNat)) rest else none

/-- A decimal number of at least one digit. -/
def numberWord (w : List Char) : Option Nat := if w.isEmpty then none else numberFrom 0 w

/-- The value a word has in a table of words. -/
def wordIn {α : Type} (table : List (List Char × α)) (w : List Char) : Option α :=
  (table.find? fun row => row.1 = w).map fun row => row.2

/-- R85: c ∈ {0, 1}, and the aliases `pitch` = 0 and `roll` = 1. -/
def channelWord : List Char → Option Channel :=
  wordIn [(['0'], .pitch), (['1'], .roll), (['p', 'i', 't', 'c', 'h'], .pitch), (['r', 'o', 'l', 'l'], .roll)]

/-- R85: `rise` and `fall`. -/
def polarityWord : List Char → Option Polarity :=
  wordIn [(['r', 'i', 's', 'e'], .rise), (['f', 'a', 'l', 'l'], .fall)]

/-- R85: `plus` (= 1) and `x` (= 0). -/
def levelWord : List Char → Option Level :=
  wordIn [(['p', 'l', 'u', 's'], .high), (['1'], .high), (['x'], .low), (['0'], .low)]

/-- R85: m ∈ {0, 1, 2, 3}. -/
def motorWord : List Char → Option Motor :=
  wordIn [(['0'], .m0), (['1'], .m1), (['2'], .m2), (['3'], .m3)]

/-- The operations written as one word (R85), and `TAIL` (R86). -/
def plainWord : List Char → Option (List Instr) :=
  wordIn [
    (['t', 'i', 'c', 'k'], [.tick]),
    (['w', 'o', 'p', 'e', 'n'], [.wopen]),
    (['w', 'c', 'l', 'o', 's', 'e'], [.wclose]),
    (['c', 'o', 'n', 'v'], [.conv]),
    (['m', 'z', 'e', 'r', 'o'], [.mzero]),
    (['m', 'i', 'x'], [.mix]),
    (['a', 'p', 'p', 'l', 'y'], [.apply]),
    (['p', 'w', 'm', 'b'], [.pwmb]),
    (['e', 'm', 'i', 't'], [.emit]),
    (['t', 'a', 'i', 'l'], tailOps)]

/-- The operations written with one operand (R85), and `TICKS n` (R86). -/
def oneOperand (name operand : List Char) : Option (List Instr) :=
  if name = ['s', 'v', 'c'] then (channelWord operand).map fun c => [.svc c]
  else if name = ['f', 'r', 'a', 'm', 'e'] then (levelWord operand).map fun l => [.frame l]
  else if name = ['d', 'w', 'r', 'i', 't', 'e'] then (motorWord operand).map fun m => [.dwrite m]
  else if name = ['t', 'i', 'c', 'k', 's'] then (numberWord operand).map ticks
  else none

/-- `EDGE c, pol` (R85) and `PULSE c, n` (R86). -/
def twoOperands (name first second : List Char) : Option (List Instr) :=
  if name = ['e', 'd', 'g', 'e'] then
    (channelWord first).bind fun c => (polarityWord second).map fun p => [.edge c p]
  else if name = ['p', 'u', 'l', 's', 'e'] then
    (channelWord first).bind fun c => (numberWord second).map fun n => pulse c n
  else none

/-- The operations of one statement; an empty statement has none. -/
def parseStatement : List (List Char) → Option (List Instr)
  | [] => some []
  | [name] => plainWord name
  | [name, operand] => oneOperand name operand
  | [name, first, comma, second] => if comma = [','] then twoOperands name first second else none
  | _ => none

/-- The operations of all statements, in order; `none` where one of them is not in the syntax. -/
def parseAll : List (List Char) → Option (List Instr)
  | [] => some []
  | st :: rest => (parseStatement (tokens [] st)).bind fun is => (parseAll rest).map fun js => is ++ js

/-- The operations a trace text stands for (R85, R86). -/
def parseTrace (text : List Char) : Option (List Instr) :=
  parseAll (splitStatements [] (stripComments false text))

/-- The operation words a trace text stands for, one per atomic step, in step order (R65). -/
def assemble (text : List Char) : Option (List Byte) := (parseTrace text).map fun is => is.flatMap encode

/-- R85's spelling of an operation. -/
def spell : Instr → List Char
  | .tick => ['T', 'I', 'C', 'K']
  | .edge c pol => ['E', 'D', 'G', 'E', ' '] ++ spellChannel c ++ [',', ' '] ++ spellPolarity pol
  | .svc c => ['S', 'V', 'C', ' '] ++ spellChannel c
  | .frame .high => ['F', 'R', 'A', 'M', 'E', ' ', 'p', 'l', 'u', 's']
  | .frame .low => ['F', 'R', 'A', 'M', 'E', ' ', 'x']
  | .wopen => ['W', 'O', 'P', 'E', 'N']
  | .wclose => ['W', 'C', 'L', 'O', 'S', 'E']
  | .conv => ['C', 'O', 'N', 'V']
  | .mzero => ['M', 'Z', 'E', 'R', 'O']
  | .mix => ['M', 'I', 'X']
  | .apply => ['A', 'P', 'P', 'L', 'Y']
  | .dwrite m => ['D', 'W', 'R', 'I', 'T', 'E', ' '] ++ spellMotor m
  | .pwmb => ['P', 'W', 'M', 'B']
  | .emit => ['E', 'M', 'I', 'T']
where
  spellChannel : Channel → List Char
    | .pitch => ['0']
    | .roll => ['1']
  spellPolarity : Polarity → List Char
    | .rise => ['r', 'i', 's', 'e']
    | .fall => ['f', 'a', 'l', 'l']
  spellMotor : Motor → List Char
    | .m0 => ['0']
    | .m1 => ['1']
    | .m2 => ['2']
    | .m3 => ['3']

end Sys2Proof.Machine
end

