-- ==== Sys2Proof/Machine/Observe.lean ====
section
/-! DEFINITION. The observation index of R26: "a model or test names an element by it". Each element is read as the
integers it holds (R17), an indexed element in index order, with the bit codes of R33, R42 and R83. -/

namespace Sys2Proof.Machine

/-- The elements S0 to S16 of R26. -/
inductive Element where
  | tick
  | rcLvl
  | phase
  | startTs
  | rawW
  | live
  | pend
  | stabW
  | pct
  | motor
  | dcmd
  | seq
  | wmask
  | framePin
  | dutyReg
  | dutyAct
  | tlm
  deriving DecidableEq, Repr

/-- The number n of the id "Sn" (R26). -/
def Element.id : Element → Nat
  | .tick => 0
  | .rcLvl => 1
  | .phase => 2
  | .startTs => 3
  | .rawW => 4
  | .live => 5
  | .pend => 6
  | .stabW => 7
  | .pct => 8
  | .motor => 9
  | .dcmd => 10
  | .seq => 11
  | .wmask => 12
  | .framePin => 13
  | .dutyReg => 14
  | .dutyAct => 15
  | .tlm => 16

/-- Both entries of a per-channel element, in index order. -/
def channelValues {α : Type} (f : α → Int) (x : PerChannel α) : List Int := [f x.pitch, f x.roll]

/-- The four entries of a per-motor element, in index order. -/
def motorValues {α : Type} (f : α → Int) (x : PerMotor α) : List Int := [f x.m0, f x.m1, f x.m2, f x.m3]

/-- A flag as a bit. -/
def flagBit (b : Bool) : Int := if b then 1 else 0

/-- The integers an element holds. -/
def State.observe (s : State) : Element → List Int
  | .tick => [(s.tick : Int)]
  | .rcLvl => channelValues (fun l => (levelBit l : Int)) s.rcLvl
  | .phase => channelValues (fun p => (phaseBit p : Int)) s.phase
  | .startTs => channelValues (fun (n : Nat) => (n : Int)) s.startTs
  | .rawW => channelValues (fun (n : Nat) => (n : Int)) s.rawW
  | .live => [flagBit s.live]
  | .pend => channelValues flagBit s.pend
  | .stabW => channelValues (fun (n : Nat) => (n : Int)) s.stabW
  | .pct => channelValues (fun v => v.toInt) s.pct
  | .motor => motorValues (fun v => v.toInt) s.motor
  | .dcmd => motorValues (fun (n : Nat) => (n : Int)) s.dcmd
  | .seq => [((seqCode s.seq).toNat : Int)]
  | .wmask => [(s.wmask.toNat : Int)]
  | .framePin => [(levelBit s.framePin : Int)]
  | .dutyReg => motorValues (fun (n : Nat) => (n : Int)) s.dutyReg
  | .dutyAct => motorValues (fun (n : Nat) => (n : Int)) s.dutyAct
  | .tlm => s.tlm.map fun b => (b.toNat : Int)

end Sys2Proof.Machine
end

