-- ==== Sys2Proof/Safety.lean ====
section
/-! DEFINITION. What counts as a run and as a sound state, in the terms the statements use. A step of a run is any
operation of any agent whose enabling condition holds (R21, R57), so a run here is over `exec`, with no schedule
chosen. -/

namespace Sys2Proof.Safety

open Sys2Proof.Machine

/-! ## Runs (R20, R57, R138) -/

/-- The operation has a step in this state (R20). -/
def Enabled (i : Instr) (s : State) : Prop := ∃ t, exec i s = .next t

/-- `ops` is the schedule and `states` are the states of an infinite run. -/
def InfiniteRun (ops : Nat → Instr) (states : Nat → State) : Prop :=
  ∀ n, exec (ops n) (states n) = .next (states (n + 1))

/-- Weak fairness to a set of operations: at no point is one of them enabled for ever after with none taken, so at
infinitely many points one is taken or none is enabled (DEDUCED, log entry 9). -/
def WeaklyFairTo (taken : Instr → Prop) (ops : Nat → Instr) (states : Nat → State) : Prop :=
  ∀ n, ∃ k, n ≤ k ∧ (taken (ops k) ∨ ∀ i : Instr, taken i → ¬ Enabled i (states k))

/-- Weak fairness for SEQ (R138): "an enabled SEQ operation is eventually taken". The agent is one set of operations
(DEDUCED, log entry 9). -/
def FairToSeq (ops : Nat → Instr) (states : Nat → State) : Prop :=
  WeaklyFairTo (fun i => i.agent = .seq) ops states

/-- Weak fairness for the service of channel `c` (R138, R152): "an enabled `SVC c` is eventually taken". -/
def FairToService (c : Channel) (ops : Nat → Instr) (states : Nat → State) : Prop :=
  WeaklyFairTo (fun i => i = .svc c) ops states

/-- The weakly fair runs of R138: fair to SEQ, and to CAP in each of its two services. There is "no fairness
assumption for ENV". -/
def WeaklyFair (ops : Nat → Instr) (states : Nat → State) : Prop :=
  FairToSeq ops states ∧ ∀ c, FairToService c ops states

/-! ## Sound states -/

/-- Every register lies within its declared width (R26, R48), and the parameters are ones the spec admits. The
registers of a fixed width are bit vectors and need no clause. -/
abbrev WidthsOk (s : State) : Prop :=
  s.cfg.wf = true ∧
  s.tick < 2 ^ s.cfg.tickW ∧
  (∀ c, s.startTs.get c < 2 ^ s.cfg.tickW) ∧
  (∀ c, s.rawW.get c < 2 ^ s.cfg.tickW) ∧
  (∀ c, s.stabW.get c < 2 ^ s.cfg.tickW) ∧
  (∀ m, s.dcmd.get m < 2 ^ s.cfg.dutyW) ∧
  (∀ m, s.dutyReg.get m < 2 ^ s.cfg.dutyW) ∧
  (∀ m, s.dutyAct.get m < 2 ^ s.cfg.dutyW)

/-- The duty registers and the active duties hold values in `[0, DUTY_FULL]` (R30, R48), and so do the commands about
to be written. -/
abbrev DutiesOk (s : State) : Prop :=
  (∀ m, s.dutyReg.get m ≤ s.cfg.dutyFull) ∧
  (∀ m, s.dutyAct.get m ≤ s.cfg.dutyFull) ∧
  (s.seq = .atWrite → ∀ m, s.dcmd.get m ≤ s.cfg.dutyFull)

/-- The mask leaves a duty register to write while the sequencer is in WRITE (R133, R135). -/
abbrev WriteOk (s : State) : Prop := s.seq = .atWrite → s.wmask ≠ 0b1111#4

/-- The percents are those of the stabilized widths (R145, line P). -/
def PercentsOk (s : State) : Prop := ∀ c, (s.pct.get c).toInt = percent (s.stabW.get c)

/-- The motor percents are the mix of the percents in one of the two frames, from all zeros (R145, line M). -/
def MotorsOk (s : State) : Prop :=
  ∃ frame : Level, ∀ m, (s.motor.get m).toInt =
    (mixFrame frame ⟨0, 0, 0, 0⟩ (percent s.stabW.pitch) (percent s.stabW.roll)).get m

/-- The duty commands are the duties of the motor percents (R145, line D). -/
def CommandsOk (s : State) : Prop := ∀ m, s.dcmd.get m = duty s.cfg (shape (s.motor.get m).toInt)

/-- What a cycle has computed so far, for each sequencer state (R145). -/
def CycleOk (s : State) : Prop :=
  match s.seq with
  | .atOpen => True
  | .atWait => True
  | .atConvert => True
  | .atZero => PercentsOk s
  | .atMix => PercentsOk s ∧ ∀ m, s.motor.get m = 0#16
  | .atApply => PercentsOk s ∧ MotorsOk s
  | .atWrite =>
    PercentsOk s ∧ MotorsOk s ∧ CommandsOk s ∧ s.wmask ≠ 0b1111#4 ∧
      ∀ m, maskHas s.wmask m = true → s.dutyReg.get m = s.dcmd.get m
  | .atEmit => PercentsOk s ∧ MotorsOk s ∧ CommandsOk s ∧ s.wmask = 0b1111#4 ∧ s.dutyReg = s.dcmd

end Sys2Proof.Safety
end

