-- ==== Sys2Proof/Certificates/Slice0/Obligations.lean ====
section
/-! DEFINITION. The statements for the provers: they state, they never prove. A statement of an operation gives the
whole next state (so its frame too), when the operation runs and when it is disabled. -/

open Sys2Proof Sys2Proof.Machine Sys2Proof.Safety

/-! ## Pulse Capture -/

/-- R87. -/
def Obligations.TickIncrementsModuloItsWidth : Prop :=
  Instr.tick.agent = .env ∧ encode .tick = [0x10#8] ∧
  ∀ s : State, exec .tick s = .next { s with tick := (s.tick + 1) % 2 ^ s.cfg.tickW }

/-- R88: both polarities, both channels; the edge is enabled exactly at the level it starts from, and it sets
`PEND[c]` exactly when the channel is armed for it. -/
def Obligations.EdgeMovesThePinAndMarksArmedTransitions : Prop :=
  (∀ c pol, (Instr.edge c pol).agent = .env) ∧
  encode (.edge .pitch .rise) = [0x20#8] ∧ encode (.edge .roll .rise) = [0x21#8] ∧
  encode (.edge .pitch .fall) = [0x22#8] ∧ encode (.edge .roll .fall) = [0x23#8] ∧
  ∀ (c : Channel) (s : State),
    (s.rcLvl.get c = .low →
      exec (.edge c .rise) s = .next { s with
        rcLvl := s.rcLvl.set c .high
        pend := if s.phase.get c = .awaitingRising then s.pend.set c true else s.pend } ∧
      exec (.edge c .fall) s = .refused (.disabled (.edge c .fall))) ∧
    (s.rcLvl.get c = .high →
      exec (.edge c .fall) s = .next { s with
        rcLvl := s.rcLvl.set c .low
        pend := if s.phase.get c = .awaitingFalling then s.pend.set c true else s.pend } ∧
      exec (.edge c .rise) s = .refused (.disabled (.edge c .rise)))

/-- R89: the rising service, the falling service, and the service with nothing pending. -/
def Obligations.ServiceStampsOrMeasuresAndClearsItsCondition : Prop :=
  (∀ c, (Instr.svc c).agent = .cap) ∧
  encode (.svc .pitch) = [0x30#8] ∧ encode (.svc .roll) = [0x31#8] ∧
  ∀ (c : Channel) (s : State),
    (s.pend.get c = true → s.phase.get c = .awaitingRising →
      exec (.svc c) s = .next { s with
        startTs := s.startTs.set c s.tick
        phase := s.phase.set c .awaitingFalling
        live := true
        pend := s.pend.set c false }) ∧
    (s.pend.get c = true → s.phase.get c = .awaitingFalling →
      exec (.svc c) s = .next { s with
        rawW := s.rawW.set c (((s.tick : Int) - (s.startTs.get c : Int)) % ((2 ^ s.cfg.tickW : Nat) : Int)).toNat
        phase := s.phase.set c .awaitingRising
        live := true
        pend := s.pend.set c false }) ∧
    (s.pend.get c = false → exec (.svc c) s = .refused (.disabled (.svc c)))

/-- R90, which the spec marks "[derived: from rules R87 and R89]": the width in both cases of the wrap, and the width
as the number of TICK steps between the two services of a channel, whatever else happens between them. -/
def Obligations.WidthIsTheTickCountBetweenServices : Prop :=
  (∀ (c : Channel) (s : State), s.pend.get c = true → s.phase.get c = .awaitingFalling →
    s.tick < 2 ^ s.cfg.tickW → s.startTs.get c < 2 ^ s.cfg.tickW →
    ∃ t, exec (.svc c) s = .next t ∧ t.rawW.get c =
      if s.startTs.get c ≤ s.tick then s.tick - s.startTs.get c
      else s.tick + 2 ^ s.cfg.tickW - s.startTs.get c) ∧
  ∀ (c : Channel) (s t u v : State) (between : List Instr),
    s.phase.get c = .awaitingRising → s.tick < 2 ^ s.cfg.tickW →
    exec (.svc c) s = .next t → Instr.svc c ∉ between → perform between t = .next u →
    exec (.svc c) u = .next v →
    v.rawW.get c = between.count .tick % 2 ^ s.cfg.tickW

/-- R92, which the spec marks "[derived: from rules R88 and R89]": only `EDGE c` and `SVC c` write the capture state
of channel `c`, and two pending services give one state in either order. -/
def Obligations.ChannelsAreIndependent : Prop :=
  (∀ (c : Channel) (i : Instr) (s t : State), exec i s = .next t → i ≠ .svc c → (∀ pol, i ≠ .edge c pol) →
    t.phase.get c = s.phase.get c ∧ t.startTs.get c = s.startTs.get c ∧
    t.rawW.get c = s.rawW.get c ∧ t.pend.get c = s.pend.get c) ∧
  ∀ s : State, s.pend = ⟨true, true⟩ →
    ∃ t, perform [.svc .pitch, .svc .roll] s = .next t ∧ perform [.svc .roll, .svc .pitch] s = .next t

/-- R36: source `c` is pending exactly when its service is enabled, and a pending condition stays until its own
service runs (R60: deferred, not lost), whatever steps come between. -/
def Obligations.PendingConditionWaitsForItsService : Prop :=
  (∀ (c : Channel) (s : State), Enabled (.svc c) s ↔ s.pend.get c = true) ∧
  (∀ (c : Channel) (s t : State), exec (.svc c) s = .next t → t.pend.get c = false) ∧
  ∀ (c : Channel) (s t : State) (between : List Instr), s.pend.get c = true → Instr.svc c ∉ between →
    perform between s = .next t → Enabled (.svc c) t

/-! ## Pulse Sampler -/

/-- R97. -/
def Obligations.WopenClearsLiveAndStartsTheWindow : Prop :=
  Instr.wopen.agent = .seq ∧ encode .wopen = [0x50#8] ∧
  ∀ s : State,
    (s.seq = .atOpen → exec .wopen s = .next { s with live := false, seq := .atWait }) ∧
    (s.seq ≠ .atOpen → exec .wopen s = .refused (.disabled .wopen))

/-- R98. -/
def Obligations.WcloseSnapshotsOrFailsSafe : Prop :=
  Instr.wclose.agent = .seq ∧ encode .wclose = [0x51#8] ∧
  ∀ s : State,
    (s.seq = .atWait → s.live = true →
      exec .wclose s = .next { s with stabW := s.rawW, seq := .atConvert }) ∧
    (s.seq = .atWait → s.live = false →
      exec .wclose s = .next { s with stabW := ⟨1500, 1500⟩, seq := .atConvert }) ∧
    (s.seq ≠ .atWait → exec .wclose s = .refused (.disabled .wclose))

/-- R99 and R100. -/
def Obligations.ConvMapsEachWidthToItsPercent : Prop :=
  Instr.conv.agent = .seq ∧ encode .conv = [0x52#8] ∧
  ∀ s : State,
    (s.seq = .atConvert →
      ∃ p : PerChannel (BitVec 8), exec .conv s = .next { s with pct := p, seq := .atZero } ∧
        ∀ c, (p.get c).toInt =
          if s.stabW.get c ≤ 900 ∨ 2100 ≤ s.stabW.get c then 0
          else (min 2000 (max 1000 (s.stabW.get c : Int)) - 1000 + 2) / 5 - 100) ∧
    (s.seq ≠ .atConvert → exec .conv s = .refused (.disabled .conv))

/-- R101, R102 and R103, which the spec marks "[derived: from rule R99]": anchors, rounding and monotonicity of the
percent that CONV computes. -/
def Obligations.PercentRangeRoundingAndMonotonicity : Prop :=
  (∀ w, -100 ≤ percent w ∧ percent w ≤ 100) ∧
  percent 1500 = 0 ∧ percent 1000 = -100 ∧ percent 2000 = 100 ∧
  (∀ w, w ≤ 900 ∨ 2100 ≤ w → percent w = 0) ∧
  (∀ w, 900 < w → w ≤ 1000 → percent w = -100) ∧
  (∀ w, 2000 ≤ w → w < 2100 → percent w = 100) ∧
  (∀ (t : Nat) (p : Int), t ≤ 1000 → -99 ≤ p → p ≤ 99 →
    (percent (1000 + t) = p ↔ 5 * (p + 100) - 2 ≤ (t : Int) ∧ (t : Int) ≤ 5 * (p + 100) + 2)) ∧
  (∀ t : Nat, t ≤ 1000 → (percent (1000 + t) = -100 ↔ t ≤ 2) ∧ (percent (1000 + t) = 100 ↔ 998 ≤ t)) ∧
  ∀ v w, 900 < v → v ≤ w → w < 2100 → percent v ≤ percent w

/-- R104, which the spec marks "[derived: from rule R100]": `PCT[c]` depends only on `STAB_W[c]`. -/
def Obligations.PercentOfOneChannelIgnoresTheOther : Prop :=
  ∀ (c : Channel) (s s' t t' : State), s.stabW.get c = s'.stabW.get c →
    exec .conv s = .next t → exec .conv s' = .next t' → t.pct.get c = t'.pct.get c

/-- R59, which the spec marks "[derived: ...]": once the test has found `LIVE = 1`, services and environment steps
before the copy leave it so, and the copy takes the widths they left; WCLOSE after them is the same step. -/
def Obligations.SnapshotAfterLaterServicesCopiesTheirWidths : Prop :=
  ∀ (s t : State) (between : List Instr), s.seq = .atWait → s.live = true →
    (∀ i ∈ between, i.agent ≠ .seq) → perform between s = .next t →
    t.live = true ∧ exec .wclose t = .next { t with stabW := t.rawW, seq := .atConvert }

/-- R108, which the spec marks "[derived: ...]": with no service between WOPEN and WCLOSE, whatever the environment
does there, the cycle runs on to APPLY with centre widths and zero outputs, in both frames. -/
def Obligations.SignalLossGivesZeroDuties : Prop :=
  ∀ (s t : State) (between : List Instr), s.seq = .atOpen →
    (∀ i ∈ between, i.agent = .env) → perform (.wopen :: between) s = .next t →
    ∃ u v, perform [.wclose, .conv] t = .next u ∧ perform [.mzero, .mix, .apply] u = .next v ∧
      u.stabW = ⟨1500, 1500⟩ ∧ u.pct = ⟨0#8, 0#8⟩ ∧
      v.motor = ⟨0#16, 0#16, 0#16, 0#16⟩ ∧ v.dcmd = ⟨0, 0, 0, 0⟩ ∧ v.framePin = t.framePin

/-! ## Motor Mixer -/

/-- R109. -/
def Obligations.FrameDrivesThePin : Prop :=
  (∀ lvl, (Instr.frame lvl).agent = .env) ∧
  encode (.frame .low) = [0x40#8] ∧ encode (.frame .high) = [0x41#8] ∧
  ∀ (lvl : Level) (s : State), exec (.frame lvl) s = .next { s with framePin := lvl }

/-- R110. -/
def Obligations.MzeroClearsAllMotors : Prop :=
  Instr.mzero.agent = .seq ∧ encode .mzero = [0x60#8] ∧
  ∀ s : State,
    (s.seq = .atZero → exec .mzero s = .next { s with motor := ⟨0#16, 0#16, 0#16, 0#16⟩, seq := .atMix }) ∧
    (s.seq ≠ .atZero → exec .mzero s = .refused (.disabled .mzero))

/-- R111, with the two tables of R112 and R113 row by row, from any contents of `MOTOR`: the Plus rows overwrite, the
X rows add. What MOTOR holds for a sum `e` that 16 bits cannot hold is a free value (log entry 8) and is not stated. -/
def Obligations.MixAppliesTheFrameTables : Prop :=
  Instr.mix.agent = .seq ∧ encode .mix = [0x61#8] ∧
  ∀ (s : State) (p r : Int), p = s.pct.pitch.toInt → r = s.pct.roll.toInt →
    (s.seq = .atMix → s.framePin = .high → exec .mix s = .next { s with
      motor := ⟨if 0 ≤ p then s.motor.m0 else BitVec.ofInt 16 (-p),
                if 0 ≤ r then s.motor.m1 else BitVec.ofInt 16 (-r),
                if 0 ≤ p then BitVec.ofInt 16 p else s.motor.m2,
                if 0 ≤ r then BitVec.ofInt 16 r else s.motor.m3⟩
      seq := .atApply }) ∧
    (s.seq = .atMix → s.framePin = .low →
      ∃ v : PerMotor (BitVec 16), exec .mix s = .next { s with motor := v, seq := .atApply } ∧
        ∀ (m : Motor) (e : Int),
          e = (match m with
            | .m0 => s.motor.m0.toInt + (if 0 ≤ p then 0 else -p) + (if 0 ≤ r then r else 0)
            | .m1 => s.motor.m1.toInt + (if 0 ≤ p then 0 else -p) + (if 0 ≤ r then 0 else -r)
            | .m2 => s.motor.m2.toInt + (if 0 ≤ p then p else 0) + (if 0 ≤ r then 0 else -r)
            | .m3 => s.motor.m3.toInt + (if 0 ≤ p then p else 0) + (if 0 ≤ r then r else 0)) →
          -32768 ≤ e → e ≤ 32767 → (v.get m).toInt = e) ∧
    (s.seq ≠ .atMix → exec .mix s = .refused (.disabled .mix))

/-- The closed forms of R112 and R113 ("[derived: closed form from the table and rule R110]"), from the zeroed `MOTOR`
that MZERO leaves. -/
def Obligations.MixFromZeroHasTheClosedForms : Prop :=
  ∀ (s : State) (p r : Int), s.seq = .atMix → s.motor = ⟨0#16, 0#16, 0#16, 0#16⟩ →
    p = s.pct.pitch.toInt → r = s.pct.roll.toInt →
    ∃ t, exec .mix s = .next t ∧ t.seq = .atApply ∧
      (s.framePin = .high →
        t.motor.m0.toInt = max (-p) 0 ∧ t.motor.m1.toInt = max (-r) 0 ∧
        t.motor.m2.toInt = max p 0 ∧ t.motor.m3.toInt = max r 0) ∧
      (s.framePin = .low →
        t.motor.m0.toInt = max (-p) 0 + max r 0 ∧ t.motor.m1.toInt = max (-p) 0 + max (-r) 0 ∧
        t.motor.m2.toInt = max p 0 + max (-r) 0 ∧ t.motor.m3.toInt = max p 0 + max r 0)

/-- R115, R117 and R118, which the spec marks as derived: the Plus invariant, the output ranges of both frames with
the values that are reached, and the centre stick. -/
def Obligations.MixerOutputRanges : Prop :=
  ∀ (s t : State) (p r : Int), s.motor = ⟨0#16, 0#16, 0#16, 0#16⟩ →
    p = s.pct.pitch.toInt → r = s.pct.roll.toInt → -100 ≤ p → p ≤ 100 → -100 ≤ r → r ≤ 100 →
    exec .mix s = .next t →
    (s.framePin = .high →
      (t.motor.m0 = 0#16 ∨ t.motor.m2 = 0#16) ∧ (t.motor.m1 = 0#16 ∨ t.motor.m3 = 0#16) ∧
      ∀ m, 0 ≤ (t.motor.get m).toInt ∧ (t.motor.get m).toInt ≤ 100) ∧
    (s.framePin = .low →
      (∀ m, 0 ≤ (t.motor.get m).toInt ∧ (t.motor.get m).toInt ≤ 200) ∧
      (p = 100 → r = 100 → t.motor.m3.toInt = 200) ∧ (p = -100 → r = 100 → t.motor.m0.toInt = 200) ∧
      (p = -100 → r = -100 → t.motor.m1.toInt = 200) ∧ (p = 100 → r = -100 → t.motor.m2.toInt = 200)) ∧
    (p = 0 → r = 0 → t.motor = ⟨0#16, 0#16, 0#16, 0#16⟩)

/-! ## Duty Applier -/

/-- R121 with R125: below the dead-zone 0, from 100 on the full scale, and between them the half-up rounded duty. -/
def Obligations.ApplyShapesAndConvertsEachMotor : Prop :=
  Instr.apply.agent = .seq ∧ encode .apply = [0x70#8] ∧
  ∀ s : State,
    (s.seq = .atApply →
      ∃ d : PerMotor Nat, exec .apply s = .next { s with dcmd := d, wmask := 0b0000#4, seq := .atWrite } ∧
        ∀ m, ((s.motor.get m).toInt ≤ 4 → d.get m = 0) ∧
          (5 ≤ (s.motor.get m).toInt → (s.motor.get m).toInt ≤ 99 →
            (d.get m : Int) = ((s.motor.get m).toInt * s.cfg.dutyFull + 50) / 100) ∧
          (100 ≤ (s.motor.get m).toInt → d.get m = s.cfg.dutyFull)) ∧
    (s.seq ≠ .atApply → exec .apply s = .refused (.disabled .apply))

/-- R126: `duty(v)` is `v * DUTY_FULL / 100` rounded half up, with its end values, and it never decreases. -/
def Obligations.DutyIsTheHalfUpRounding : Prop :=
  ∀ cfg : Config,
    (∀ v : Int, 0 ≤ v → v ≤ 100 →
      100 * (duty cfg v : Int) ≤ v * cfg.dutyFull + 50 ∧ v * cfg.dutyFull + 50 < 100 * ((duty cfg v : Int) + 1)) ∧
    duty cfg 0 = 0 ∧ duty cfg 100 = cfg.dutyFull ∧
    ∀ v v' : Int, 0 ≤ v → v ≤ v' → v' ≤ 100 → duty cfg v ≤ duty cfg v'

/-- R124, which the spec marks "[derived: from rules R125 and R126]": no percent in (0, 5) reaches a duty command. -/
def Obligations.DutyCommandsAvoidTheDeadZone : Prop :=
  (∀ x : Int, shape x = 0 ∨ (5 ≤ shape x ∧ shape x ≤ 100)) ∧
  ∀ (s t : State), exec .apply s = .next t →
    ∀ m, t.dcmd.get m = 0 ∨ ((5 * s.cfg.dutyFull + 50) / 100 ≤ t.dcmd.get m ∧ t.dcmd.get m ≤ s.cfg.dutyFull)

/-- R122. -/
def Obligations.DwriteWritesOneRegisterOncePerCycle : Prop :=
  (∀ m, (Instr.dwrite m).agent = .seq) ∧
  encode (.dwrite .m0) = [0x80#8] ∧ encode (.dwrite .m1) = [0x81#8] ∧
  encode (.dwrite .m2) = [0x82#8] ∧ encode (.dwrite .m3) = [0x83#8] ∧
  ∀ (m : Motor) (bit : BitVec 4) (s : State),
    bit = (match m with | .m0 => 0b0001#4 | .m1 => 0b0010#4 | .m2 => 0b0100#4 | .m3 => 0b1000#4) →
    (s.seq = .atWrite → s.wmask &&& bit = 0#4 →
      exec (.dwrite m) s = .next { s with
        dutyReg := s.dutyReg.set m (s.dcmd.get m)
        wmask := s.wmask ||| bit
        seq := if s.wmask ||| bit = 0b1111#4 then .atEmit else .atWrite }) ∧
    (s.seq ≠ .atWrite ∨ s.wmask &&& bit ≠ 0#4 →
      exec (.dwrite m) s = .refused (.disabled (.dwrite m)))

/-- R123. -/
def Obligations.PwmbLatchesAllFourDuties : Prop :=
  Instr.pwmb.agent = .env ∧ encode .pwmb = [0x90#8] ∧
  ∀ s : State, exec .pwmb s = .next { s with dutyAct := s.dutyReg }

/-- R130, which the spec marks "[derived: from rules R122 and R123]": a written duty reaches the output at the first
PWMB after the write and not before, and at a PWMB all four outputs are those of the registers. -/
def Obligations.DutyReachesTheOutputAtTheNextBoundary : Prop :=
  ∀ (m : Motor) (s t u : State) (between : List Instr),
    exec (.dwrite m) s = .next t → Instr.pwmb ∉ between → perform between t = .next u →
    u.dutyAct = s.dutyAct ∧
    ∃ v, exec .pwmb u = .next v ∧ v.dutyAct = u.dutyReg ∧
      (Instr.dwrite m ∉ between → v.dutyAct.get m = s.dcmd.get m)

/-! ## Sequencer and telemetry -/

/-- R139 with R140. -/
def Obligations.EmitAppendsTheWholeLine : Prop :=
  Instr.emit.agent = .seq ∧ encode .emit = [0xA0#8] ∧
  ∀ s : State,
    (s.seq = .atEmit → exec .emit s = .next { s with
      tlm := s.tlm ++ (dec s.stabW.pitch ++ [0x2C#8] ++ sdec s.pct.pitch.toInt ++ [0x20#8] ++
        dec s.stabW.roll ++ [0x2C#8] ++ sdec s.pct.roll.toInt ++ [0x20#8] ++
        (if s.cfg.newline = .lf then [0x0A#8] else [0x0D#8, 0x0A#8]))
      seq := .atOpen }) ∧
    (s.seq ≠ .atEmit → exec .emit s = .refused (.disabled .emit))

/-- R141: decimal digits that read back as the number, no leading zero, "0" for 0, and `-` before a negative one. -/
def Obligations.NumbersArePlainDecimal : Prop :=
  dec 0 = [0x30#8] ∧
  (∀ n, (∀ b ∈ dec n, 0x30 ≤ b.toNat ∧ b.toNat ≤ 0x39) ∧
    (dec n).foldl (fun acc b => 10 * acc + (b.toNat - 0x30)) 0 = n ∧
    (n ≠ 0 → (dec n).head? ≠ some 0x30#8)) ∧
  ∀ v : Int, (v < 0 → sdec v = 0x2D#8 :: dec v.natAbs) ∧ (0 ≤ v → sdec v = dec v.natAbs)

/-- R143, which the spec marks "[derived: ...]": the length of a line, and the bounds of an item and of a line whose
percents are those of its widths. -/
def Obligations.TelemetryLineLength : Prop :=
  (∀ s t : State, exec .emit s = .next t →
    t.tlm.length = s.tlm.length + (dec s.stabW.pitch).length + (sdec s.pct.pitch.toInt).length +
      (dec s.stabW.roll).length + (sdec s.pct.roll.toInt).length + (if s.cfg.newline = .lf then 5 else 6)) ∧
  (∀ W w : Nat, 12 ≤ W → w < 2 ^ W →
    4 ≤ (tlmItem w (percent w)).length ∧
    (tlmItem w (percent w)).length ≤ max ((dec (2 ^ W - 1)).length + 3) 10) ∧
  (∀ W : Nat, 12 ≤ W → (tlmItem (2 ^ W - 1) (percent (2 ^ W - 1))).length = (dec (2 ^ W - 1)).length + 3) ∧
  (tlmItem 1002 (percent 1002)).length = 10 ∧ (tlmItem 0 (percent 0)).length = 4 ∧
  ∀ s t : State, WidthsOk s → PercentsOk s → s.cfg.newline = .lf → exec .emit s = .next t →
    (s.cfg.tickW = 16 → s.tlm.length + 9 ≤ t.tlm.length ∧ t.tlm.length ≤ s.tlm.length + 21) ∧
    (s.cfg.tickW = 32 → t.tlm.length ≤ s.tlm.length + 27)

/-- R133: in each `SEQ` state exactly the operations of the table are enabled, each sets `SEQ` as the table says, and
ENV and CAP operations are enabled independently of `SEQ`. -/
def Obligations.SequencerFollowsItsTable : Prop :=
  (∀ (s : State) (i : Instr), i.agent = .seq →
    (Enabled i s ↔
      (s.seq = .atOpen ∧ i = .wopen) ∨ (s.seq = .atWait ∧ i = .wclose) ∨ (s.seq = .atConvert ∧ i = .conv) ∨
      (s.seq = .atZero ∧ i = .mzero) ∨ (s.seq = .atMix ∧ i = .mix) ∨ (s.seq = .atApply ∧ i = .apply) ∨
      (s.seq = .atWrite ∧ ((i = .dwrite .m0 ∧ s.wmask.getLsbD 0 = false) ∨ (i = .dwrite .m1 ∧ s.wmask.getLsbD 1 = false) ∨
        (i = .dwrite .m2 ∧ s.wmask.getLsbD 2 = false) ∨ (i = .dwrite .m3 ∧ s.wmask.getLsbD 3 = false))) ∨
      (s.seq = .atEmit ∧ i = .emit))) ∧
  (∀ s t : State,
    (exec .wopen s = .next t → t.seq = .atWait) ∧ (exec .wclose s = .next t → t.seq = .atConvert) ∧
    (exec .conv s = .next t → t.seq = .atZero) ∧ (exec .mzero s = .next t → t.seq = .atMix) ∧
    (exec .mix s = .next t → t.seq = .atApply) ∧ (exec .apply s = .next t → t.seq = .atWrite) ∧
    (∀ m, exec (.dwrite m) s = .next t → t.seq = if t.wmask = 0b1111#4 then .atEmit else .atWrite) ∧
    (exec .emit s = .next t → t.seq = .atOpen)) ∧
  ∀ (s : State) (i : Instr) (q : SeqState), i.agent ≠ .seq → (Enabled i s ↔ Enabled i { s with seq := q })

/-- R135, which the spec marks "[derived: from rule R133]": every state whose write mask is sound has an enabled SEQ
operation, and the successor of EMIT is OPEN. -/
def Obligations.SequencerNeverStops : Prop :=
  (∀ s : State, WriteOk s → ∃ i : Instr, i.agent = .seq ∧ Enabled i s) ∧
  ∀ s : State, s.seq = .atEmit → ∃ t, exec .emit s = .next t ∧ t.seq = .atOpen

/-- R134, which the spec marks "[derived: from rule R133]": from OPEN, whatever ENV and CAP do between, the SEQ steps
up to the first EMIT are WOPEN, WCLOSE, CONV, MZERO, MIX, APPLY, the four DWRITE in some order, EMIT: eleven steps.
Every one of those orders runs (R128). -/
def Obligations.OneCycleIsElevenSequencerSteps : Prop :=
  (∀ (s t : State) (ops : List Instr), s.seq = .atOpen → Instr.emit ∉ ops → perform (ops ++ [Instr.emit]) s = .next t →
    ∃ ms : List Motor, ms.Perm [.m0, .m1, .m2, .m3] ∧
      seqSteps (ops ++ [Instr.emit]) =
        [Instr.wopen, Instr.wclose, Instr.conv, Instr.mzero, Instr.mix, Instr.apply] ++ ms.map Instr.dwrite ++ [Instr.emit] ∧
      (seqSteps (ops ++ [Instr.emit])).length = 11) ∧
  ∀ (s : State) (ms : List Motor), s.seq = .atOpen → ms.Perm [.m0, .m1, .m2, .m3] →
    ∃ t, perform ([Instr.wopen, Instr.wclose, Instr.conv, Instr.mzero, Instr.mix, Instr.apply] ++ ms.map Instr.dwrite ++
      [Instr.emit]) s = .next t

/-- R145, which the spec marks "[derived: from the rules named]": the results of one cycle as a function of `LIVE` and
`RAW_W` at its WCLOSE and of `FRAME_PIN` at its MIX, whatever ENV and CAP do between the SEQ steps. -/
def Obligations.CycleComputesItsFunction : Prop :=
  ∀ (s u t : State) (before after : List Instr) (ms : List Motor) (stab : PerChannel Nat) (mixed : PerMotor Int),
    s.seq = .atWait →
    seqSteps before = [.conv, .mzero] → perform (.wclose :: before) s = .next u →
    seqSteps after = Instr.apply :: (ms.map Instr.dwrite ++ [Instr.emit]) → perform (.mix :: after) u = .next t →
    stab = (if s.live then s.rawW else ⟨1500, 1500⟩) →
    mixed = (match u.framePin with
      | .high => plusMix ⟨0, 0, 0, 0⟩ (percent stab.pitch) (percent stab.roll)
      | .low => xMix ⟨0, 0, 0, 0⟩ (percent stab.pitch) (percent stab.roll)) →
    t.stabW = stab ∧
    t.pct.pitch.toInt = percent stab.pitch ∧ t.pct.roll.toInt = percent stab.roll ∧
    (∀ m, (t.motor.get m).toInt = mixed.get m) ∧
    (∀ m, t.dutyReg.get m = duty s.cfg (shape (mixed.get m))) ∧
    t.tlm = s.tlm ++ tlmLine s.cfg stab t.pct ∧
    t.seq = .atOpen

/-- R137, which the spec marks "[derived: ...]": a cycle from its WCLOSE on ends in the same state whatever an earlier
cycle left in `STAB_W`, `PCT`, `MOTOR`, `DCMD`, `WMASK` and `DUTY_REG`, for every order of the duty writes. -/
def Obligations.CyclesAreStatelessInTheirOwnRegisters : Prop :=
  ∀ (s : State) (ms : List Motor) (stab : PerChannel Nat) (pct : PerChannel (BitVec 8)) (motor : PerMotor (BitVec 16))
    (dcmd dutyReg : PerMotor Nat) (wmask : BitVec 4), s.seq = .atWait → ms.Perm [.m0, .m1, .m2, .m3] →
    ∃ t, perform ([Instr.wclose, Instr.conv, Instr.mzero, Instr.mix, Instr.apply] ++ ms.map Instr.dwrite ++
        [Instr.emit]) s = .next t ∧
      perform ([Instr.wclose, Instr.conv, Instr.mzero, Instr.mix, Instr.apply] ++ ms.map Instr.dwrite ++ [Instr.emit])
        { s with stabW := stab, pct := pct, motor := motor, dcmd := dcmd, dutyReg := dutyReg, wmask := wmask } = .next t

/-- R138: every infinite run from reset that is weakly fair to SEQ and to CAP passes through infinitely many EMIT
steps. Fairness to SEQ alone is enough, from any state with a sound write mask. The fairness predicates are the
model's reading of the rule's words (DEDUCED, log entry 9). -/
def Obligations.FairRunsEmitForEver : Prop :=
  (∀ (ops : Nat → Instr) (states : Nat → State),
    WriteOk (states 0) → InfiniteRun ops states → FairToSeq ops states →
    ∀ n, ∃ k, n ≤ k ∧ ops k = .emit) ∧
  ∀ (ops : Nat → Instr) (states : Nat → State),
    (states 0).IsReset → InfiniteRun ops states → WeaklyFair ops states →
    ∀ n, ∃ k, n ≤ k ∧ ops k = .emit

/-- R152 with R138: in an infinite run that is weakly fair to the service of channel `c`, whatever SEQ and ENV steps
are taken while `PEND[c] = 1`, the pending service is eventually taken, and it is pending until then. The fairness
predicate is the model's reading of the rules' words (DEDUCED, log entry 9). -/
def Obligations.FairRunsTakeEveryPendingService : Prop :=
  ∀ (ops : Nat → Instr) (states : Nat → State) (c : Channel) (n : Nat),
    InfiniteRun ops states → FairToService c ops states → (states n).pend.get c = true →
    ∃ k, n ≤ k ∧ ops k = .svc c ∧ ∀ j, n ≤ j → j ≤ k → (states j).pend.get c = true

/-! ## Decoding, stepping -/

/-- R68: a word belongs to at most one row, and 21 words are legal. -/
def Obligations.OpcodeRowsAreDisjoint : Prop :=
  opcodeMap.length = 13 ∧
  (∀ w : Byte, (opcodeMap.filter fun r => r.covers w).length ≤ 1) ∧
  ((List.range 256).filter fun k => (decodeWord (BitVec.ofNat 8 k)).isSome).length = 21

/-- R80: the reserved words are exactly the listed ranges, the decoder names the word, the word has no step, and the
run over a trace that contains one is refused as a whole. -/
def Obligations.ReservedWordsAreRefused : Prop :=
  (∀ w : Byte, decodeWord w = none ↔
    (w.toNat ≤ 0x0F ∨ (0x11 ≤ w.toNat ∧ w.toNat ≤ 0x1F) ∨ (0x24 ≤ w.toNat ∧ w.toNat ≤ 0x2F) ∨
     (0x32 ≤ w.toNat ∧ w.toNat ≤ 0x3F) ∨ (0x42 ≤ w.toNat ∧ w.toNat ≤ 0x4F) ∨ (0x53 ≤ w.toNat ∧ w.toNat ≤ 0x5F) ∨
     (0x62 ≤ w.toNat ∧ w.toNat ≤ 0x6F) ∨ (0x71 ≤ w.toNat ∧ w.toNat ≤ 0x7F) ∨ (0x84 ≤ w.toNat ∧ w.toNat ≤ 0x8F) ∨
     (0x91 ≤ w.toNat ∧ w.toNat ≤ 0x9F) ∨ 0xA1 ≤ w.toNat)) ∧
  ((List.range 256).filter fun k => decide (decodeWord (BitVec.ofNat 8 k) = none)).length = 235 ∧
  (∀ (w : Byte) (rest : List Byte), decodeWord w = none → decode (w :: rest) = .invalid w) ∧
  (∀ (s : State) (w : Byte) (rest : List Byte), s.trace = w :: rest → decodeWord w = none →
    step s = .refused (.reservedWord w)) ∧
  ∀ (s : State) (w : Byte), w ∈ s.trace → decodeWord w = none →
    ∃ r, Host.Core.run Sys2Proof.core s.trace.length s = .refused r

/-- Decoding an encoded operation gives it back, every operand at every value its field admits, and reads exactly its
one byte. -/
def Obligations.DecodeInvertsEncode : Prop :=
  ∀ (i : Instr) (rest : List Byte), decode (encode i ++ rest) = .legal i rest

/-- Encoding a decoded word gives the word back: no bit of a legal word is dropped, and each operation has one word. -/
def Obligations.EncodeInvertsDecode : Prop :=
  ∀ (w : Byte) (i : Instr) (rest tail : List Byte), decode (w :: rest) = .legal i tail →
    encode i = [w] ∧ tail = rest

/-- The words of R68 and R70 to R78, written out from their bit patterns. -/
def Obligations.WrittenOutWordsDecode : Prop :=
  decode [0b00010000#8] = .legal .tick [] ∧
  decode [0b00100001#8] = .legal (.edge .roll .rise) [] ∧
  decode [0b00100010#8] = .legal (.edge .pitch .fall) [] ∧
  decode [0b00110001#8] = .legal (.svc .roll) [] ∧
  decode [0b01000001#8] = .legal (.frame .high) [] ∧
  decode [0b01010001#8] = .legal .wclose [] ∧
  decode [0b01100001#8] = .legal .mix [] ∧
  decode [0b10000010#8] = .legal (.dwrite .m2) [] ∧
  decode [0b10010000#8] = .legal .pwmb [] ∧
  decode [0b10100000#8] = .legal .emit []

/-- A step runs the decoded operation, on the state with the schedule moved past its word. The schedule and the refusal
at its end are the model's own (log entries 4 and 6). -/
def Obligations.StepRunsTheDecodedOperation : Prop :=
  (∀ (s : State) (i : Instr) (rest : List Byte), decode s.trace = .legal i rest →
    step s = exec i { s with trace := rest }) ∧
  ∀ s : State, s.trace = [] → step s = .refused .traceEnd

/-- A run of the machine over the encoded words of a sequence of operations is that sequence performed. The schedule is
the model's own (log entry 4). -/
def Obligations.RunningATracePerformsItsOperations : Prop :=
  ∀ (ops : List Instr) (s : State),
    Host.Core.run Sys2Proof.core ops.length { s with trace := ops.flatMap encode } =
      perform ops { s with trace := [] }

/-- R86: the expansions of the pseudo-operations, and the state PULSE ends in. -/
def Obligations.PulseMeasuresItsTicks : Prop :=
  (∀ n, ticks n = List.replicate n .tick) ∧
  (∀ c n, pulse c n = [Instr.edge c .rise, Instr.svc c] ++ List.replicate n Instr.tick ++ [Instr.edge c .fall, Instr.svc c]) ∧
  tailOps = [.wclose, .conv, .mzero, .mix, .apply, .dwrite .m0, .dwrite .m1, .dwrite .m2, .dwrite .m3, .emit] ∧
  ∀ (c : Channel) (n : Nat) (s : State), s.tick < 2 ^ s.cfg.tickW →
    s.rcLvl.get c = .low → s.phase.get c = .awaitingRising → s.pend.get c = false →
    perform (pulse c n) s = .next { s with
      tick := (s.tick + n) % 2 ^ s.cfg.tickW
      startTs := s.startTs.set c s.tick
      rawW := s.rawW.set c (n % 2 ^ s.cfg.tickW)
      live := true }

/-- R85: the spelling of every operation reads back as that operation. -/
def Obligations.EverySpellingReadsBack : Prop :=
  ∀ i : Instr, parseTrace (spell i) = some [i]

/-! ## Whole-machine rules -/

/-- R146: no operation faults; an operation either has its one atomic step or is disabled (R20). -/
def Obligations.NoOperationFaults : Prop :=
  ∀ (i : Instr) (s : State), (∀ f, exec i s ≠ .fault f) ∧
    ((∃ t, exec i s = .next t) ∨ exec i s = .refused (.disabled i))

/-- The "written by" column of R26, with R44, R45 and R49: an element changes only in the operations listed for it, and
neither the parameters nor the schedule change in an operation. -/
def Obligations.OnlyItsWritersChangeAnElement : Prop :=
  ∀ (i : Instr) (s t : State), exec i s = .next t →
    (t.tick ≠ s.tick → i = .tick) ∧
    (t.rcLvl ≠ s.rcLvl → ∃ c pol, i = .edge c pol) ∧
    (t.phase ≠ s.phase → ∃ c, i = .svc c) ∧
    (t.startTs ≠ s.startTs → ∃ c, i = .svc c ∧ s.phase.get c = .awaitingRising) ∧
    (t.rawW ≠ s.rawW → ∃ c, i = .svc c ∧ s.phase.get c = .awaitingFalling) ∧
    (t.live ≠ s.live → (t.live = true ∧ ∃ c, i = .svc c) ∨ (t.live = false ∧ i = .wopen)) ∧
    (∀ c, t.pend.get c ≠ s.pend.get c →
      (t.pend.get c = true ∧ ∃ pol, i = .edge c pol) ∨ (t.pend.get c = false ∧ i = .svc c)) ∧
    (t.stabW ≠ s.stabW → i = .wclose) ∧
    (t.pct ≠ s.pct → i = .conv) ∧
    (t.motor ≠ s.motor → i = .mzero ∨ i = .mix) ∧
    (t.dcmd ≠ s.dcmd → i = .apply) ∧
    (t.seq ≠ s.seq → i.agent = .seq) ∧
    (t.wmask ≠ s.wmask → i = .apply ∨ ∃ m, i = .dwrite m) ∧
    (t.framePin ≠ s.framePin → ∃ lvl, i = .frame lvl) ∧
    (∀ m, t.dutyReg.get m ≠ s.dutyReg.get m → i = .dwrite m) ∧
    (t.dutyAct ≠ s.dutyAct → i = .pwmb) ∧
    (t.tlm ≠ s.tlm → i = .emit) ∧
    t.cfg = s.cfg ∧ t.trace = s.trace

/-- R32: `TLM` is append-only, only EMIT appends, and it is empty at reset. -/
def Obligations.TelemetryIsAppendOnly : Prop :=
  (∀ (i : Instr) (s t : State), exec i s = .next t →
    ∃ bytes : List Byte, t.tlm = s.tlm ++ bytes ∧ (i ≠ .emit → bytes = [])) ∧
  ∀ s : State, s.IsReset → s.tlm = []

/-- R44: SEQ "never reads `START_TS` or `PHASE`"; nor does it read `TICK`, `RC_LVL` or `PEND` (R26, "read by"). A SEQ
operation runs alike whatever those elements hold, and leaves them alone. -/
def Obligations.SequencerReadsNoCaptureInternals : Prop :=
  ∀ (i : Instr) (s : State) (tick : Nat) (rcLvl : PerChannel Level) (phase : PerChannel EdgePhase)
    (startTs : PerChannel Nat) (pend : PerChannel Bool), i.agent = .seq →
    (∀ t, exec i s = .next t →
      exec i { s with tick := tick, rcLvl := rcLvl, phase := phase, startTs := startTs, pend := pend } =
        .next { t with tick := tick, rcLvl := rcLvl, phase := phase, startTs := startTs, pend := pend }) ∧
    ∀ r, exec i s = .refused r →
      exec i { s with tick := tick, rcLvl := rcLvl, phase := phase, startTs := startTs, pend := pend } = .refused r

/-- R153, which the spec marks "[derived: ...]": a service just before a SEQ operation other than WOPEN and WCLOSE has
the same effect as the same service just after it. -/
def Obligations.ServiceCommutesWithTheCooperativeContext : Prop :=
  ∀ (c : Channel) (i : Instr) (s : State), i.agent = .seq → i ≠ .wopen → i ≠ .wclose →
    s.pend.get c = true → Enabled i s →
    ∃ t, perform [.svc c, i] s = .next t ∧ perform [i, .svc c] s = .next t

/-! ## Invariants and reset -/

/-- Every step keeps every register within its declared width, and the parameters admissible. -/
def Obligations.StepKeepsEveryWidth : Prop :=
  ∀ s s' : State, WidthsOk s → step s = .next s' → WidthsOk s'

/-- R30: every step keeps the duty registers and the active duties in `[0, DUTY_FULL]`. -/
def Obligations.StepKeepsDutiesInScale : Prop :=
  ∀ s s' : State, DutiesOk s → step s = .next s' → DutiesOk s'

/-- Every step keeps the write mask sound: in WRITE a register is left to write. -/
def Obligations.StepKeepsTheWriteMaskSound : Prop :=
  ∀ s s' : State, WriteOk s → step s = .next s' → WriteOk s'

/-- Every step keeps what the cycle has computed so far: percents of the widths, motors of the percents, commands of the
motors, written registers of the commands (the lines of R145, in each sequencer state). -/
def Obligations.StepKeepsTheCycleResults : Prop :=
  ∀ s s' : State, CycleOk s → step s = .next s' → CycleOk s'

/-- Every state a run can start in meets all four invariants. -/
def Obligations.ResetMeetsTheInvariants : Prop :=
  ∀ s : State, s.IsReset → WidthsOk s ∧ DutiesOk s ∧ WriteOk s ∧ CycleOk s

/-- R169, the specified rows, for every admissible choice of the parameters. That `State.reset` has the parameters of
`Config.reference` is the model's choice (log entry 2) and is not stated. -/
def Obligations.ResetTableHolds : Prop :=
  (∀ cfg : Config, cfg.wf = true → (State.resetWith cfg).IsReset) ∧ State.reset.IsReset ∧
  ∀ s : State, s.IsReset →
    s.tick = s.cfg.tickInit ∧ s.rcLvl = s.cfg.rcLvlInit ∧ s.framePin = s.cfg.frameInit ∧
    s.dutyReg = s.cfg.dutyInit ∧ s.dutyAct = s.cfg.dutyInit ∧
    s.observe .phase = [0, 0] ∧ s.observe .rawW = [0, 0] ∧ s.observe .live = [0] ∧ s.observe .pend = [0, 0] ∧
    s.observe .seq = [0] ∧ s.observe .wmask = [0] ∧ s.observe .tlm = []

/-- R170 and R171: after reset WOPEN is the one enabled SEQ operation, no service is, and both channels are armed for
the rising edge: a rise of a low pin makes its service enabled. -/
def Obligations.FirstOperationAfterReset : Prop :=
  ∀ s : State, s.IsReset →
    (∀ i : Instr, i.agent = .seq → (Enabled i s ↔ i = .wopen)) ∧
    (∀ c, ¬ Enabled (.svc c) s) ∧
    ∀ c, s.rcLvl.get c = .low → ∃ t, exec (.edge c .rise) s = .next t ∧ Enabled (.svc c) t

/-- R173, which the spec marks "[derived: ...]": a pin that is high at reset falls unrecognized, and the first width is
that of the first complete pulse. -/
def Obligations.PulseInProgressAtResetIsNotMeasured : Prop :=
  ∀ (s : State) (c : Channel), s.IsReset → s.rcLvl.get c = .high →
    exec (.edge c .fall) s = .next { s with rcLvl := s.rcLvl.set c .low } ∧
    ∀ n, ∃ t, perform (.edge c .fall :: pulse c n) s = .next t ∧ t.rawW.get c = n % 2 ^ s.cfg.tickW

/-- R48, which the spec marks "[derived: ...]": after the first write of each element, its range; and no register ever
overflows its declared width. -/
def Obligations.RangesHoldAfterTheFirstWrite : Prop :=
  ∀ (s₀ s : State) (ops : List Instr), s₀.IsReset → perform ops s₀ = .next s →
    (Instr.conv ∈ ops → ∀ c, -100 ≤ (s.pct.get c).toInt ∧ (s.pct.get c).toInt ≤ 100) ∧
    (Instr.mzero ∈ ops → ∀ m, 0 ≤ (s.motor.get m).toInt ∧ (s.motor.get m).toInt ≤ 200) ∧
    (s.seq = .atMix → ∀ m, s.motor.get m = 0#16) ∧
    (Instr.apply ∈ ops → ∀ m, s.dcmd.get m = 0 ∨
      ((5 * s.cfg.dutyFull + 50) / 100 ≤ s.dcmd.get m ∧ s.dcmd.get m ≤ s.cfg.dutyFull)) ∧
    (∀ m, s.dutyReg.get m ≤ s.cfg.dutyFull ∧ s.dutyAct.get m ≤ s.cfg.dutyFull) ∧
    WidthsOk s
end

