-- ==== Sys2Proof/Laws/Operands.lean ====
section
/-! SUPPORT. The arithmetic: one lemma for what each primitive can answer. -/

namespace Sys2Proof.Machine

/-- `u_N` answers a number of N bits. -/
theorem uN_lt (n : Nat) (x : Int) : uN n x < 2 ^ n := by
  have hpos : (0 : Int) < ((2 ^ n : Nat) : Int) := by exact_mod_cast Nat.two_pow_pos n
  have hlt := Int.emod_lt_of_pos x hpos
  have hge := Int.emod_nonneg x (ne_of_gt hpos)
  unfold uN
  omega

/-- On a natural number `u_N` is the remainder. -/
theorem uN_natCast (n k : Nat) : uN n (k : Int) = k % 2 ^ n := by
  unfold uN
  rw [← Int.natCast_emod, Int.toNat_natCast]

/-- The tick counter's successor as a remainder (R87). -/
theorem tickSucc_eq (cfg : Config) (tick : Nat) : tickSucc cfg tick = (tick + 1) % 2 ^ cfg.tickW := by
  unfold tickSucc
  exact_mod_cast uN_natCast cfg.tickW (tick + 1)

/-- The clamp answers a value between its bounds. -/
theorem clamp_bounds {lo hi : Int} (h : lo ≤ hi) (x : Int) : lo ≤ clamp lo hi x ∧ clamp lo hi x ≤ hi := by
  unfold clamp
  omega

/-- An 8-bit store is exact on the values a percent can take. -/
theorem storePct_toInt {v : Int} (lo : -128 ≤ v) (hi : v ≤ 127) : (storePct v).toInt = v := by
  unfold storePct
  rw [BitVec.toInt_ofInt]
  exact Int.bmod_eq_of_le (by omega) (by omega)

/-- A 16-bit store is exact on the values a motor percent can take. -/
theorem storeMotor_toInt {v : Int} (lo : -32768 ≤ v) (hi : v ≤ 32767) : (storeMotor v).toInt = v := by
  unfold storeMotor
  rw [if_pos ⟨lo, hi⟩, BitVec.toInt_ofInt]
  exact Int.bmod_eq_of_le (by omega) (by omega)

/-- More fuel than the number itself changes no digit. -/
theorem decDigits_fuel {n f g : Nat} (hf : n < f) (hg : n < g) : decDigits f n = decDigits g n := by
  induction f generalizing n g with
  | zero => omega
  | succ f ih =>
    obtain _ | g := g
    · omega
    · unfold decDigits
      split
      · rfl
      · rw [ih (n := n / 10) (g := g) (by omega) (by omega)]

/-- The numeral of a one-digit number. -/
theorem dec_of_lt_ten {n : Nat} (h : n < 10) : dec n = [digitByte n] := by
  simp [dec, decDigits, h]

/-- The numeral of a longer number: the numeral of its tenth part, then its last digit. -/
theorem dec_of_ten_le {n : Nat} (h : 10 ≤ n) : dec n = dec (n / 10) ++ [digitByte (n % 10)] := by
  have hlt : ¬ n < 10 := by omega
  have hfuel := decDigits_fuel (n := n / 10) (f := n) (g := n / 10 + 1) (by omega) (by omega)
  simp [dec, decDigits, hlt, hfuel]

end Sys2Proof.Machine
end

