-- ==== Sys2Proof/Laws/State.lean ====
section
/-! SUPPORT. One lemma per field per update of the state, each true by `rfl`: no later proof unfolds an update. -/

namespace Sys2Proof.Machine

/-! ### `setTick` -/

@[simp] theorem State.setTick_tick (s : State) (v : Nat) : (s.setTick v).tick = v := rfl
@[simp] theorem State.setTick_rcLvl (s : State) (v : Nat) : (s.setTick v).rcLvl = s.rcLvl := rfl
@[simp] theorem State.setTick_phase (s : State) (v : Nat) : (s.setTick v).phase = s.phase := rfl
@[simp] theorem State.setTick_startTs (s : State) (v : Nat) : (s.setTick v).startTs = s.startTs := rfl
@[simp] theorem State.setTick_rawW (s : State) (v : Nat) : (s.setTick v).rawW = s.rawW := rfl
@[simp] theorem State.setTick_live (s : State) (v : Nat) : (s.setTick v).live = s.live := rfl
@[simp] theorem State.setTick_pend (s : State) (v : Nat) : (s.setTick v).pend = s.pend := rfl
@[simp] theorem State.setTick_stabW (s : State) (v : Nat) : (s.setTick v).stabW = s.stabW := rfl
@[simp] theorem State.setTick_pct (s : State) (v : Nat) : (s.setTick v).pct = s.pct := rfl
@[simp] theorem State.setTick_motor (s : State) (v : Nat) : (s.setTick v).motor = s.motor := rfl
@[simp] theorem State.setTick_dcmd (s : State) (v : Nat) : (s.setTick v).dcmd = s.dcmd := rfl
@[simp] theorem State.setTick_seq (s : State) (v : Nat) : (s.setTick v).seq = s.seq := rfl
@[simp] theorem State.setTick_wmask (s : State) (v : Nat) : (s.setTick v).wmask = s.wmask := rfl
@[simp] theorem State.setTick_framePin (s : State) (v : Nat) : (s.setTick v).framePin = s.framePin := rfl
@[simp] theorem State.setTick_dutyReg (s : State) (v : Nat) : (s.setTick v).dutyReg = s.dutyReg := rfl
@[simp] theorem State.setTick_dutyAct (s : State) (v : Nat) : (s.setTick v).dutyAct = s.dutyAct := rfl
@[simp] theorem State.setTick_tlm (s : State) (v : Nat) : (s.setTick v).tlm = s.tlm := rfl
@[simp] theorem State.setTick_cfg (s : State) (v : Nat) : (s.setTick v).cfg = s.cfg := rfl
@[simp] theorem State.setTick_trace (s : State) (v : Nat) : (s.setTick v).trace = s.trace := rfl

/-! ### `setRcLvl` -/

@[simp] theorem State.setRcLvl_tick (s : State) (c : Channel) (v : Level) : (s.setRcLvl c v).tick = s.tick := rfl
@[simp] theorem State.setRcLvl_rcLvl (s : State) (c : Channel) (v : Level) : (s.setRcLvl c v).rcLvl = s.rcLvl.set c v := rfl
@[simp] theorem State.setRcLvl_phase (s : State) (c : Channel) (v : Level) : (s.setRcLvl c v).phase = s.phase := rfl
@[simp] theorem State.setRcLvl_startTs (s : State) (c : Channel) (v : Level) : (s.setRcLvl c v).startTs = s.startTs := rfl
@[simp] theorem State.setRcLvl_rawW (s : State) (c : Channel) (v : Level) : (s.setRcLvl c v).rawW = s.rawW := rfl
@[simp] theorem State.setRcLvl_live (s : State) (c : Channel) (v : Level) : (s.setRcLvl c v).live = s.live := rfl
@[simp] theorem State.setRcLvl_pend (s : State) (c : Channel) (v : Level) : (s.setRcLvl c v).pend = s.pend := rfl
@[simp] theorem State.setRcLvl_stabW (s : State) (c : Channel) (v : Level) : (s.setRcLvl c v).stabW = s.stabW := rfl
@[simp] theorem State.setRcLvl_pct (s : State) (c : Channel) (v : Level) : (s.setRcLvl c v).pct = s.pct := rfl
@[simp] theorem State.setRcLvl_motor (s : State) (c : Channel) (v : Level) : (s.setRcLvl c v).motor = s.motor := rfl
@[simp] theorem State.setRcLvl_dcmd (s : State) (c : Channel) (v : Level) : (s.setRcLvl c v).dcmd = s.dcmd := rfl
@[simp] theorem State.setRcLvl_seq (s : State) (c : Channel) (v : Level) : (s.setRcLvl c v).seq = s.seq := rfl
@[simp] theorem State.setRcLvl_wmask (s : State) (c : Channel) (v : Level) : (s.setRcLvl c v).wmask = s.wmask := rfl
@[simp] theorem State.setRcLvl_framePin (s : State) (c : Channel) (v : Level) : (s.setRcLvl c v).framePin = s.framePin := rfl
@[simp] theorem State.setRcLvl_dutyReg (s : State) (c : Channel) (v : Level) : (s.setRcLvl c v).dutyReg = s.dutyReg := rfl
@[simp] theorem State.setRcLvl_dutyAct (s : State) (c : Channel) (v : Level) : (s.setRcLvl c v).dutyAct = s.dutyAct := rfl
@[simp] theorem State.setRcLvl_tlm (s : State) (c : Channel) (v : Level) : (s.setRcLvl c v).tlm = s.tlm := rfl
@[simp] theorem State.setRcLvl_cfg (s : State) (c : Channel) (v : Level) : (s.setRcLvl c v).cfg = s.cfg := rfl
@[simp] theorem State.setRcLvl_trace (s : State) (c : Channel) (v : Level) : (s.setRcLvl c v).trace = s.trace := rfl

/-! ### `setPhase` -/

@[simp] theorem State.setPhase_tick (s : State) (c : Channel) (v : EdgePhase) : (s.setPhase c v).tick = s.tick := rfl
@[simp] theorem State.setPhase_rcLvl (s : State) (c : Channel) (v : EdgePhase) : (s.setPhase c v).rcLvl = s.rcLvl := rfl
@[simp] theorem State.setPhase_phase (s : State) (c : Channel) (v : EdgePhase) : (s.setPhase c v).phase = s.phase.set c v := rfl
@[simp] theorem State.setPhase_startTs (s : State) (c : Channel) (v : EdgePhase) : (s.setPhase c v).startTs = s.startTs := rfl
@[simp] theorem State.setPhase_rawW (s : State) (c : Channel) (v : EdgePhase) : (s.setPhase c v).rawW = s.rawW := rfl
@[simp] theorem State.setPhase_live (s : State) (c : Channel) (v : EdgePhase) : (s.setPhase c v).live = s.live := rfl
@[simp] theorem State.setPhase_pend (s : State) (c : Channel) (v : EdgePhase) : (s.setPhase c v).pend = s.pend := rfl
@[simp] theorem State.setPhase_stabW (s : State) (c : Channel) (v : EdgePhase) : (s.setPhase c v).stabW = s.stabW := rfl
@[simp] theorem State.setPhase_pct (s : State) (c : Channel) (v : EdgePhase) : (s.setPhase c v).pct = s.pct := rfl
@[simp] theorem State.setPhase_motor (s : State) (c : Channel) (v : EdgePhase) : (s.setPhase c v).motor = s.motor := rfl
@[simp] theorem State.setPhase_dcmd (s : State) (c : Channel) (v : EdgePhase) : (s.setPhase c v).dcmd = s.dcmd := rfl
@[simp] theorem State.setPhase_seq (s : State) (c : Channel) (v : EdgePhase) : (s.setPhase c v).seq = s.seq := rfl
@[simp] theorem State.setPhase_wmask (s : State) (c : Channel) (v : EdgePhase) : (s.setPhase c v).wmask = s.wmask := rfl
@[simp] theorem State.setPhase_framePin (s : State) (c : Channel) (v : EdgePhase) : (s.setPhase c v).framePin = s.framePin := rfl
@[simp] theorem State.setPhase_dutyReg (s : State) (c : Channel) (v : EdgePhase) : (s.setPhase c v).dutyReg = s.dutyReg := rfl
@[simp] theorem State.setPhase_dutyAct (s : State) (c : Channel) (v : EdgePhase) : (s.setPhase c v).dutyAct = s.dutyAct := rfl
@[simp] theorem State.setPhase_tlm (s : State) (c : Channel) (v : EdgePhase) : (s.setPhase c v).tlm = s.tlm := rfl
@[simp] theorem State.setPhase_cfg (s : State) (c : Channel) (v : EdgePhase) : (s.setPhase c v).cfg = s.cfg := rfl
@[simp] theorem State.setPhase_trace (s : State) (c : Channel) (v : EdgePhase) : (s.setPhase c v).trace = s.trace := rfl

/-! ### `setStartTs` -/

@[simp] theorem State.setStartTs_tick (s : State) (c : Channel) (v : Nat) : (s.setStartTs c v).tick = s.tick := rfl
@[simp] theorem State.setStartTs_rcLvl (s : State) (c : Channel) (v : Nat) : (s.setStartTs c v).rcLvl = s.rcLvl := rfl
@[simp] theorem State.setStartTs_phase (s : State) (c : Channel) (v : Nat) : (s.setStartTs c v).phase = s.phase := rfl
@[simp] theorem State.setStartTs_startTs (s : State) (c : Channel) (v : Nat) : (s.setStartTs c v).startTs = s.startTs.set c v := rfl
@[simp] theorem State.setStartTs_rawW (s : State) (c : Channel) (v : Nat) : (s.setStartTs c v).rawW = s.rawW := rfl
@[simp] theorem State.setStartTs_live (s : State) (c : Channel) (v : Nat) : (s.setStartTs c v).live = s.live := rfl
@[simp] theorem State.setStartTs_pend (s : State) (c : Channel) (v : Nat) : (s.setStartTs c v).pend = s.pend := rfl
@[simp] theorem State.setStartTs_stabW (s : State) (c : Channel) (v : Nat) : (s.setStartTs c v).stabW = s.stabW := rfl
@[simp] theorem State.setStartTs_pct (s : State) (c : Channel) (v : Nat) : (s.setStartTs c v).pct = s.pct := rfl
@[simp] theorem State.setStartTs_motor (s : State) (c : Channel) (v : Nat) : (s.setStartTs c v).motor = s.motor := rfl
@[simp] theorem State.setStartTs_dcmd (s : State) (c : Channel) (v : Nat) : (s.setStartTs c v).dcmd = s.dcmd := rfl
@[simp] theorem State.setStartTs_seq (s : State) (c : Channel) (v : Nat) : (s.setStartTs c v).seq = s.seq := rfl
@[simp] theorem State.setStartTs_wmask (s : State) (c : Channel) (v : Nat) : (s.setStartTs c v).wmask = s.wmask := rfl
@[simp] theorem State.setStartTs_framePin (s : State) (c : Channel) (v : Nat) : (s.setStartTs c v).framePin = s.framePin := rfl
@[simp] theorem State.setStartTs_dutyReg (s : State) (c : Channel) (v : Nat) : (s.setStartTs c v).dutyReg = s.dutyReg := rfl
@[simp] theorem State.setStartTs_dutyAct (s : State) (c : Channel) (v : Nat) : (s.setStartTs c v).dutyAct = s.dutyAct := rfl
@[simp] theorem State.setStartTs_tlm (s : State) (c : Channel) (v : Nat) : (s.setStartTs c v).tlm = s.tlm := rfl
@[simp] theorem State.setStartTs_cfg (s : State) (c : Channel) (v : Nat) : (s.setStartTs c v).cfg = s.cfg := rfl
@[simp] theorem State.setStartTs_trace (s : State) (c : Channel) (v : Nat) : (s.setStartTs c v).trace = s.trace := rfl

/-! ### `setRawW` -/

@[simp] theorem State.setRawW_tick (s : State) (c : Channel) (v : Nat) : (s.setRawW c v).tick = s.tick := rfl
@[simp] theorem State.setRawW_rcLvl (s : State) (c : Channel) (v : Nat) : (s.setRawW c v).rcLvl = s.rcLvl := rfl
@[simp] theorem State.setRawW_phase (s : State) (c : Channel) (v : Nat) : (s.setRawW c v).phase = s.phase := rfl
@[simp] theorem State.setRawW_startTs (s : State) (c : Channel) (v : Nat) : (s.setRawW c v).startTs = s.startTs := rfl
@[simp] theorem State.setRawW_rawW (s : State) (c : Channel) (v : Nat) : (s.setRawW c v).rawW = s.rawW.set c v := rfl
@[simp] theorem State.setRawW_live (s : State) (c : Channel) (v : Nat) : (s.setRawW c v).live = s.live := rfl
@[simp] theorem State.setRawW_pend (s : State) (c : Channel) (v : Nat) : (s.setRawW c v).pend = s.pend := rfl
@[simp] theorem State.setRawW_stabW (s : State) (c : Channel) (v : Nat) : (s.setRawW c v).stabW = s.stabW := rfl
@[simp] theorem State.setRawW_pct (s : State) (c : Channel) (v : Nat) : (s.setRawW c v).pct = s.pct := rfl
@[simp] theorem State.setRawW_motor (s : State) (c : Channel) (v : Nat) : (s.setRawW c v).motor = s.motor := rfl
@[simp] theorem State.setRawW_dcmd (s : State) (c : Channel) (v : Nat) : (s.setRawW c v).dcmd = s.dcmd := rfl
@[simp] theorem State.setRawW_seq (s : State) (c : Channel) (v : Nat) : (s.setRawW c v).seq = s.seq := rfl
@[simp] theorem State.setRawW_wmask (s : State) (c : Channel) (v : Nat) : (s.setRawW c v).wmask = s.wmask := rfl
@[simp] theorem State.setRawW_framePin (s : State) (c : Channel) (v : Nat) : (s.setRawW c v).framePin = s.framePin := rfl
@[simp] theorem State.setRawW_dutyReg (s : State) (c : Channel) (v : Nat) : (s.setRawW c v).dutyReg = s.dutyReg := rfl
@[simp] theorem State.setRawW_dutyAct (s : State) (c : Channel) (v : Nat) : (s.setRawW c v).dutyAct = s.dutyAct := rfl
@[simp] theorem State.setRawW_tlm (s : State) (c : Channel) (v : Nat) : (s.setRawW c v).tlm = s.tlm := rfl
@[simp] theorem State.setRawW_cfg (s : State) (c : Channel) (v : Nat) : (s.setRawW c v).cfg = s.cfg := rfl
@[simp] theorem State.setRawW_trace (s : State) (c : Channel) (v : Nat) : (s.setRawW c v).trace = s.trace := rfl

/-! ### `setLive` -/

@[simp] theorem State.setLive_tick (s : State) (v : Bool) : (s.setLive v).tick = s.tick := rfl
@[simp] theorem State.setLive_rcLvl (s : State) (v : Bool) : (s.setLive v).rcLvl = s.rcLvl := rfl
@[simp] theorem State.setLive_phase (s : State) (v : Bool) : (s.setLive v).phase = s.phase := rfl
@[simp] theorem State.setLive_startTs (s : State) (v : Bool) : (s.setLive v).startTs = s.startTs := rfl
@[simp] theorem State.setLive_rawW (s : State) (v : Bool) : (s.setLive v).rawW = s.rawW := rfl
@[simp] theorem State.setLive_live (s : State) (v : Bool) : (s.setLive v).live = v := rfl
@[simp] theorem State.setLive_pend (s : State) (v : Bool) : (s.setLive v).pend = s.pend := rfl
@[simp] theorem State.setLive_stabW (s : State) (v : Bool) : (s.setLive v).stabW = s.stabW := rfl
@[simp] theorem State.setLive_pct (s : State) (v : Bool) : (s.setLive v).pct = s.pct := rfl
@[simp] theorem State.setLive_motor (s : State) (v : Bool) : (s.setLive v).motor = s.motor := rfl
@[simp] theorem State.setLive_dcmd (s : State) (v : Bool) : (s.setLive v).dcmd = s.dcmd := rfl
@[simp] theorem State.setLive_seq (s : State) (v : Bool) : (s.setLive v).seq = s.seq := rfl
@[simp] theorem State.setLive_wmask (s : State) (v : Bool) : (s.setLive v).wmask = s.wmask := rfl
@[simp] theorem State.setLive_framePin (s : State) (v : Bool) : (s.setLive v).framePin = s.framePin := rfl
@[simp] theorem State.setLive_dutyReg (s : State) (v : Bool) : (s.setLive v).dutyReg = s.dutyReg := rfl
@[simp] theorem State.setLive_dutyAct (s : State) (v : Bool) : (s.setLive v).dutyAct = s.dutyAct := rfl
@[simp] theorem State.setLive_tlm (s : State) (v : Bool) : (s.setLive v).tlm = s.tlm := rfl
@[simp] theorem State.setLive_cfg (s : State) (v : Bool) : (s.setLive v).cfg = s.cfg := rfl
@[simp] theorem State.setLive_trace (s : State) (v : Bool) : (s.setLive v).trace = s.trace := rfl

/-! ### `setPend` -/

@[simp] theorem State.setPend_tick (s : State) (c : Channel) (v : Bool) : (s.setPend c v).tick = s.tick := rfl
@[simp] theorem State.setPend_rcLvl (s : State) (c : Channel) (v : Bool) : (s.setPend c v).rcLvl = s.rcLvl := rfl
@[simp] theorem State.setPend_phase (s : State) (c : Channel) (v : Bool) : (s.setPend c v).phase = s.phase := rfl
@[simp] theorem State.setPend_startTs (s : State) (c : Channel) (v : Bool) : (s.setPend c v).startTs = s.startTs := rfl
@[simp] theorem State.setPend_rawW (s : State) (c : Channel) (v : Bool) : (s.setPend c v).rawW = s.rawW := rfl
@[simp] theorem State.setPend_live (s : State) (c : Channel) (v : Bool) : (s.setPend c v).live = s.live := rfl
@[simp] theorem State.setPend_pend (s : State) (c : Channel) (v : Bool) : (s.setPend c v).pend = s.pend.set c v := rfl
@[simp] theorem State.setPend_stabW (s : State) (c : Channel) (v : Bool) : (s.setPend c v).stabW = s.stabW := rfl
@[simp] theorem State.setPend_pct (s : State) (c : Channel) (v : Bool) : (s.setPend c v).pct = s.pct := rfl
@[simp] theorem State.setPend_motor (s : State) (c : Channel) (v : Bool) : (s.setPend c v).motor = s.motor := rfl
@[simp] theorem State.setPend_dcmd (s : State) (c : Channel) (v : Bool) : (s.setPend c v).dcmd = s.dcmd := rfl
@[simp] theorem State.setPend_seq (s : State) (c : Channel) (v : Bool) : (s.setPend c v).seq = s.seq := rfl
@[simp] theorem State.setPend_wmask (s : State) (c : Channel) (v : Bool) : (s.setPend c v).wmask = s.wmask := rfl
@[simp] theorem State.setPend_framePin (s : State) (c : Channel) (v : Bool) : (s.setPend c v).framePin = s.framePin := rfl
@[simp] theorem State.setPend_dutyReg (s : State) (c : Channel) (v : Bool) : (s.setPend c v).dutyReg = s.dutyReg := rfl
@[simp] theorem State.setPend_dutyAct (s : State) (c : Channel) (v : Bool) : (s.setPend c v).dutyAct = s.dutyAct := rfl
@[simp] theorem State.setPend_tlm (s : State) (c : Channel) (v : Bool) : (s.setPend c v).tlm = s.tlm := rfl
@[simp] theorem State.setPend_cfg (s : State) (c : Channel) (v : Bool) : (s.setPend c v).cfg = s.cfg := rfl
@[simp] theorem State.setPend_trace (s : State) (c : Channel) (v : Bool) : (s.setPend c v).trace = s.trace := rfl

/-! ### `setStabW` -/

@[simp] theorem State.setStabW_tick (s : State) (v : PerChannel Nat) : (s.setStabW v).tick = s.tick := rfl
@[simp] theorem State.setStabW_rcLvl (s : State) (v : PerChannel Nat) : (s.setStabW v).rcLvl = s.rcLvl := rfl
@[simp] theorem State.setStabW_phase (s : State) (v : PerChannel Nat) : (s.setStabW v).phase = s.phase := rfl
@[simp] theorem State.setStabW_startTs (s : State) (v : PerChannel Nat) : (s.setStabW v).startTs = s.startTs := rfl
@[simp] theorem State.setStabW_rawW (s : State) (v : PerChannel Nat) : (s.setStabW v).rawW = s.rawW := rfl
@[simp] theorem State.setStabW_live (s : State) (v : PerChannel Nat) : (s.setStabW v).live = s.live := rfl
@[simp] theorem State.setStabW_pend (s : State) (v : PerChannel Nat) : (s.setStabW v).pend = s.pend := rfl
@[simp] theorem State.setStabW_stabW (s : State) (v : PerChannel Nat) : (s.setStabW v).stabW = v := rfl
@[simp] theorem State.setStabW_pct (s : State) (v : PerChannel Nat) : (s.setStabW v).pct = s.pct := rfl
@[simp] theorem State.setStabW_motor (s : State) (v : PerChannel Nat) : (s.setStabW v).motor = s.motor := rfl
@[simp] theorem State.setStabW_dcmd (s : State) (v : PerChannel Nat) : (s.setStabW v).dcmd = s.dcmd := rfl
@[simp] theorem State.setStabW_seq (s : State) (v : PerChannel Nat) : (s.setStabW v).seq = s.seq := rfl
@[simp] theorem State.setStabW_wmask (s : State) (v : PerChannel Nat) : (s.setStabW v).wmask = s.wmask := rfl
@[simp] theorem State.setStabW_framePin (s : State) (v : PerChannel Nat) : (s.setStabW v).framePin = s.framePin := rfl
@[simp] theorem State.setStabW_dutyReg (s : State) (v : PerChannel Nat) : (s.setStabW v).dutyReg = s.dutyReg := rfl
@[simp] theorem State.setStabW_dutyAct (s : State) (v : PerChannel Nat) : (s.setStabW v).dutyAct = s.dutyAct := rfl
@[simp] theorem State.setStabW_tlm (s : State) (v : PerChannel Nat) : (s.setStabW v).tlm = s.tlm := rfl
@[simp] theorem State.setStabW_cfg (s : State) (v : PerChannel Nat) : (s.setStabW v).cfg = s.cfg := rfl
@[simp] theorem State.setStabW_trace (s : State) (v : PerChannel Nat) : (s.setStabW v).trace = s.trace := rfl

/-! ### `setPct` -/

@[simp] theorem State.setPct_tick (s : State) (v : PerChannel (BitVec 8)) : (s.setPct v).tick = s.tick := rfl
@[simp] theorem State.setPct_rcLvl (s : State) (v : PerChannel (BitVec 8)) : (s.setPct v).rcLvl = s.rcLvl := rfl
@[simp] theorem State.setPct_phase (s : State) (v : PerChannel (BitVec 8)) : (s.setPct v).phase = s.phase := rfl
@[simp] theorem State.setPct_startTs (s : State) (v : PerChannel (BitVec 8)) : (s.setPct v).startTs = s.startTs := rfl
@[simp] theorem State.setPct_rawW (s : State) (v : PerChannel (BitVec 8)) : (s.setPct v).rawW = s.rawW := rfl
@[simp] theorem State.setPct_live (s : State) (v : PerChannel (BitVec 8)) : (s.setPct v).live = s.live := rfl
@[simp] theorem State.setPct_pend (s : State) (v : PerChannel (BitVec 8)) : (s.setPct v).pend = s.pend := rfl
@[simp] theorem State.setPct_stabW (s : State) (v : PerChannel (BitVec 8)) : (s.setPct v).stabW = s.stabW := rfl
@[simp] theorem State.setPct_pct (s : State) (v : PerChannel (BitVec 8)) : (s.setPct v).pct = v := rfl
@[simp] theorem State.setPct_motor (s : State) (v : PerChannel (BitVec 8)) : (s.setPct v).motor = s.motor := rfl
@[simp] theorem State.setPct_dcmd (s : State) (v : PerChannel (BitVec 8)) : (s.setPct v).dcmd = s.dcmd := rfl
@[simp] theorem State.setPct_seq (s : State) (v : PerChannel (BitVec 8)) : (s.setPct v).seq = s.seq := rfl
@[simp] theorem State.setPct_wmask (s : State) (v : PerChannel (BitVec 8)) : (s.setPct v).wmask = s.wmask := rfl
@[simp] theorem State.setPct_framePin (s : State) (v : PerChannel (BitVec 8)) : (s.setPct v).framePin = s.framePin := rfl
@[simp] theorem State.setPct_dutyReg (s : State) (v : PerChannel (BitVec 8)) : (s.setPct v).dutyReg = s.dutyReg := rfl
@[simp] theorem State.setPct_dutyAct (s : State) (v : PerChannel (BitVec 8)) : (s.setPct v).dutyAct = s.dutyAct := rfl
@[simp] theorem State.setPct_tlm (s : State) (v : PerChannel (BitVec 8)) : (s.setPct v).tlm = s.tlm := rfl
@[simp] theorem State.setPct_cfg (s : State) (v : PerChannel (BitVec 8)) : (s.setPct v).cfg = s.cfg := rfl
@[simp] theorem State.setPct_trace (s : State) (v : PerChannel (BitVec 8)) : (s.setPct v).trace = s.trace := rfl

/-! ### `setMotor` -/

@[simp] theorem State.setMotor_tick (s : State) (v : PerMotor (BitVec 16)) : (s.setMotor v).tick = s.tick := rfl
@[simp] theorem State.setMotor_rcLvl (s : State) (v : PerMotor (BitVec 16)) : (s.setMotor v).rcLvl = s.rcLvl := rfl
@[simp] theorem State.setMotor_phase (s : State) (v : PerMotor (BitVec 16)) : (s.setMotor v).phase = s.phase := rfl
@[simp] theorem State.setMotor_startTs (s : State) (v : PerMotor (BitVec 16)) : (s.setMotor v).startTs = s.startTs := rfl
@[simp] theorem State.setMotor_rawW (s : State) (v : PerMotor (BitVec 16)) : (s.setMotor v).rawW = s.rawW := rfl
@[simp] theorem State.setMotor_live (s : State) (v : PerMotor (BitVec 16)) : (s.setMotor v).live = s.live := rfl
@[simp] theorem State.setMotor_pend (s : State) (v : PerMotor (BitVec 16)) : (s.setMotor v).pend = s.pend := rfl
@[simp] theorem State.setMotor_stabW (s : State) (v : PerMotor (BitVec 16)) : (s.setMotor v).stabW = s.stabW := rfl
@[simp] theorem State.setMotor_pct (s : State) (v : PerMotor (BitVec 16)) : (s.setMotor v).pct = s.pct := rfl
@[simp] theorem State.setMotor_motor (s : State) (v : PerMotor (BitVec 16)) : (s.setMotor v).motor = v := rfl
@[simp] theorem State.setMotor_dcmd (s : State) (v : PerMotor (BitVec 16)) : (s.setMotor v).dcmd = s.dcmd := rfl
@[simp] theorem State.setMotor_seq (s : State) (v : PerMotor (BitVec 16)) : (s.setMotor v).seq = s.seq := rfl
@[simp] theorem State.setMotor_wmask (s : State) (v : PerMotor (BitVec 16)) : (s.setMotor v).wmask = s.wmask := rfl
@[simp] theorem State.setMotor_framePin (s : State) (v : PerMotor (BitVec 16)) : (s.setMotor v).framePin = s.framePin := rfl
@[simp] theorem State.setMotor_dutyReg (s : State) (v : PerMotor (BitVec 16)) : (s.setMotor v).dutyReg = s.dutyReg := rfl
@[simp] theorem State.setMotor_dutyAct (s : State) (v : PerMotor (BitVec 16)) : (s.setMotor v).dutyAct = s.dutyAct := rfl
@[simp] theorem State.setMotor_tlm (s : State) (v : PerMotor (BitVec 16)) : (s.setMotor v).tlm = s.tlm := rfl
@[simp] theorem State.setMotor_cfg (s : State) (v : PerMotor (BitVec 16)) : (s.setMotor v).cfg = s.cfg := rfl
@[simp] theorem State.setMotor_trace (s : State) (v : PerMotor (BitVec 16)) : (s.setMotor v).trace = s.trace := rfl

/-! ### `setDcmd` -/

@[simp] theorem State.setDcmd_tick (s : State) (v : PerMotor Nat) : (s.setDcmd v).tick = s.tick := rfl
@[simp] theorem State.setDcmd_rcLvl (s : State) (v : PerMotor Nat) : (s.setDcmd v).rcLvl = s.rcLvl := rfl
@[simp] theorem State.setDcmd_phase (s : State) (v : PerMotor Nat) : (s.setDcmd v).phase = s.phase := rfl
@[simp] theorem State.setDcmd_startTs (s : State) (v : PerMotor Nat) : (s.setDcmd v).startTs = s.startTs := rfl
@[simp] theorem State.setDcmd_rawW (s : State) (v : PerMotor Nat) : (s.setDcmd v).rawW = s.rawW := rfl
@[simp] theorem State.setDcmd_live (s : State) (v : PerMotor Nat) : (s.setDcmd v).live = s.live := rfl
@[simp] theorem State.setDcmd_pend (s : State) (v : PerMotor Nat) : (s.setDcmd v).pend = s.pend := rfl
@[simp] theorem State.setDcmd_stabW (s : State) (v : PerMotor Nat) : (s.setDcmd v).stabW = s.stabW := rfl
@[simp] theorem State.setDcmd_pct (s : State) (v : PerMotor Nat) : (s.setDcmd v).pct = s.pct := rfl
@[simp] theorem State.setDcmd_motor (s : State) (v : PerMotor Nat) : (s.setDcmd v).motor = s.motor := rfl
@[simp] theorem State.setDcmd_dcmd (s : State) (v : PerMotor Nat) : (s.setDcmd v).dcmd = v := rfl
@[simp] theorem State.setDcmd_seq (s : State) (v : PerMotor Nat) : (s.setDcmd v).seq = s.seq := rfl
@[simp] theorem State.setDcmd_wmask (s : State) (v : PerMotor Nat) : (s.setDcmd v).wmask = s.wmask := rfl
@[simp] theorem State.setDcmd_framePin (s : State) (v : PerMotor Nat) : (s.setDcmd v).framePin = s.framePin := rfl
@[simp] theorem State.setDcmd_dutyReg (s : State) (v : PerMotor Nat) : (s.setDcmd v).dutyReg = s.dutyReg := rfl
@[simp] theorem State.setDcmd_dutyAct (s : State) (v : PerMotor Nat) : (s.setDcmd v).dutyAct = s.dutyAct := rfl
@[simp] theorem State.setDcmd_tlm (s : State) (v : PerMotor Nat) : (s.setDcmd v).tlm = s.tlm := rfl
@[simp] theorem State.setDcmd_cfg (s : State) (v : PerMotor Nat) : (s.setDcmd v).cfg = s.cfg := rfl
@[simp] theorem State.setDcmd_trace (s : State) (v : PerMotor Nat) : (s.setDcmd v).trace = s.trace := rfl

/-! ### `setSeq` -/

@[simp] theorem State.setSeq_tick (s : State) (v : SeqState) : (s.setSeq v).tick = s.tick := rfl
@[simp] theorem State.setSeq_rcLvl (s : State) (v : SeqState) : (s.setSeq v).rcLvl = s.rcLvl := rfl
@[simp] theorem State.setSeq_phase (s : State) (v : SeqState) : (s.setSeq v).phase = s.phase := rfl
@[simp] theorem State.setSeq_startTs (s : State) (v : SeqState) : (s.setSeq v).startTs = s.startTs := rfl
@[simp] theorem State.setSeq_rawW (s : State) (v : SeqState) : (s.setSeq v).rawW = s.rawW := rfl
@[simp] theorem State.setSeq_live (s : State) (v : SeqState) : (s.setSeq v).live = s.live := rfl
@[simp] theorem State.setSeq_pend (s : State) (v : SeqState) : (s.setSeq v).pend = s.pend := rfl
@[simp] theorem State.setSeq_stabW (s : State) (v : SeqState) : (s.setSeq v).stabW = s.stabW := rfl
@[simp] theorem State.setSeq_pct (s : State) (v : SeqState) : (s.setSeq v).pct = s.pct := rfl
@[simp] theorem State.setSeq_motor (s : State) (v : SeqState) : (s.setSeq v).motor = s.motor := rfl
@[simp] theorem State.setSeq_dcmd (s : State) (v : SeqState) : (s.setSeq v).dcmd = s.dcmd := rfl
@[simp] theorem State.setSeq_seq (s : State) (v : SeqState) : (s.setSeq v).seq = v := rfl
@[simp] theorem State.setSeq_wmask (s : State) (v : SeqState) : (s.setSeq v).wmask = s.wmask := rfl
@[simp] theorem State.setSeq_framePin (s : State) (v : SeqState) : (s.setSeq v).framePin = s.framePin := rfl
@[simp] theorem State.setSeq_dutyReg (s : State) (v : SeqState) : (s.setSeq v).dutyReg = s.dutyReg := rfl
@[simp] theorem State.setSeq_dutyAct (s : State) (v : SeqState) : (s.setSeq v).dutyAct = s.dutyAct := rfl
@[simp] theorem State.setSeq_tlm (s : State) (v : SeqState) : (s.setSeq v).tlm = s.tlm := rfl
@[simp] theorem State.setSeq_cfg (s : State) (v : SeqState) : (s.setSeq v).cfg = s.cfg := rfl
@[simp] theorem State.setSeq_trace (s : State) (v : SeqState) : (s.setSeq v).trace = s.trace := rfl

/-! ### `setWmask` -/

@[simp] theorem State.setWmask_tick (s : State) (v : BitVec 4) : (s.setWmask v).tick = s.tick := rfl
@[simp] theorem State.setWmask_rcLvl (s : State) (v : BitVec 4) : (s.setWmask v).rcLvl = s.rcLvl := rfl
@[simp] theorem State.setWmask_phase (s : State) (v : BitVec 4) : (s.setWmask v).phase = s.phase := rfl
@[simp] theorem State.setWmask_startTs (s : State) (v : BitVec 4) : (s.setWmask v).startTs = s.startTs := rfl
@[simp] theorem State.setWmask_rawW (s : State) (v : BitVec 4) : (s.setWmask v).rawW = s.rawW := rfl
@[simp] theorem State.setWmask_live (s : State) (v : BitVec 4) : (s.setWmask v).live = s.live := rfl
@[simp] theorem State.setWmask_pend (s : State) (v : BitVec 4) : (s.setWmask v).pend = s.pend := rfl
@[simp] theorem State.setWmask_stabW (s : State) (v : BitVec 4) : (s.setWmask v).stabW = s.stabW := rfl
@[simp] theorem State.setWmask_pct (s : State) (v : BitVec 4) : (s.setWmask v).pct = s.pct := rfl
@[simp] theorem State.setWmask_motor (s : State) (v : BitVec 4) : (s.setWmask v).motor = s.motor := rfl
@[simp] theorem State.setWmask_dcmd (s : State) (v : BitVec 4) : (s.setWmask v).dcmd = s.dcmd := rfl
@[simp] theorem State.setWmask_seq (s : State) (v : BitVec 4) : (s.setWmask v).seq = s.seq := rfl
@[simp] theorem State.setWmask_wmask (s : State) (v : BitVec 4) : (s.setWmask v).wmask = v := rfl
@[simp] theorem State.setWmask_framePin (s : State) (v : BitVec 4) : (s.setWmask v).framePin = s.framePin := rfl
@[simp] theorem State.setWmask_dutyReg (s : State) (v : BitVec 4) : (s.setWmask v).dutyReg = s.dutyReg := rfl
@[simp] theorem State.setWmask_dutyAct (s : State) (v : BitVec 4) : (s.setWmask v).dutyAct = s.dutyAct := rfl
@[simp] theorem State.setWmask_tlm (s : State) (v : BitVec 4) : (s.setWmask v).tlm = s.tlm := rfl
@[simp] theorem State.setWmask_cfg (s : State) (v : BitVec 4) : (s.setWmask v).cfg = s.cfg := rfl
@[simp] theorem State.setWmask_trace (s : State) (v : BitVec 4) : (s.setWmask v).trace = s.trace := rfl

/-! ### `setFramePin` -/

@[simp] theorem State.setFramePin_tick (s : State) (v : Level) : (s.setFramePin v).tick = s.tick := rfl
@[simp] theorem State.setFramePin_rcLvl (s : State) (v : Level) : (s.setFramePin v).rcLvl = s.rcLvl := rfl
@[simp] theorem State.setFramePin_phase (s : State) (v : Level) : (s.setFramePin v).phase = s.phase := rfl
@[simp] theorem State.setFramePin_startTs (s : State) (v : Level) : (s.setFramePin v).startTs = s.startTs := rfl
@[simp] theorem State.setFramePin_rawW (s : State) (v : Level) : (s.setFramePin v).rawW = s.rawW := rfl
@[simp] theorem State.setFramePin_live (s : State) (v : Level) : (s.setFramePin v).live = s.live := rfl
@[simp] theorem State.setFramePin_pend (s : State) (v : Level) : (s.setFramePin v).pend = s.pend := rfl
@[simp] theorem State.setFramePin_stabW (s : State) (v : Level) : (s.setFramePin v).stabW = s.stabW := rfl
@[simp] theorem State.setFramePin_pct (s : State) (v : Level) : (s.setFramePin v).pct = s.pct := rfl
@[simp] theorem State.setFramePin_motor (s : State) (v : Level) : (s.setFramePin v).motor = s.motor := rfl
@[simp] theorem State.setFramePin_dcmd (s : State) (v : Level) : (s.setFramePin v).dcmd = s.dcmd := rfl
@[simp] theorem State.setFramePin_seq (s : State) (v : Level) : (s.setFramePin v).seq = s.seq := rfl
@[simp] theorem State.setFramePin_wmask (s : State) (v : Level) : (s.setFramePin v).wmask = s.wmask := rfl
@[simp] theorem State.setFramePin_framePin (s : State) (v : Level) : (s.setFramePin v).framePin = v := rfl
@[simp] theorem State.setFramePin_dutyReg (s : State) (v : Level) : (s.setFramePin v).dutyReg = s.dutyReg := rfl
@[simp] theorem State.setFramePin_dutyAct (s : State) (v : Level) : (s.setFramePin v).dutyAct = s.dutyAct := rfl
@[simp] theorem State.setFramePin_tlm (s : State) (v : Level) : (s.setFramePin v).tlm = s.tlm := rfl
@[simp] theorem State.setFramePin_cfg (s : State) (v : Level) : (s.setFramePin v).cfg = s.cfg := rfl
@[simp] theorem State.setFramePin_trace (s : State) (v : Level) : (s.setFramePin v).trace = s.trace := rfl

/-! ### `dutyWrite` -/

@[simp] theorem State.dutyWrite_tick (s : State) (m : Motor) (v : Nat) : (s.dutyWrite m v).tick = s.tick := rfl
@[simp] theorem State.dutyWrite_rcLvl (s : State) (m : Motor) (v : Nat) : (s.dutyWrite m v).rcLvl = s.rcLvl := rfl
@[simp] theorem State.dutyWrite_phase (s : State) (m : Motor) (v : Nat) : (s.dutyWrite m v).phase = s.phase := rfl
@[simp] theorem State.dutyWrite_startTs (s : State) (m : Motor) (v : Nat) : (s.dutyWrite m v).startTs = s.startTs := rfl
@[simp] theorem State.dutyWrite_rawW (s : State) (m : Motor) (v : Nat) : (s.dutyWrite m v).rawW = s.rawW := rfl
@[simp] theorem State.dutyWrite_live (s : State) (m : Motor) (v : Nat) : (s.dutyWrite m v).live = s.live := rfl
@[simp] theorem State.dutyWrite_pend (s : State) (m : Motor) (v : Nat) : (s.dutyWrite m v).pend = s.pend := rfl
@[simp] theorem State.dutyWrite_stabW (s : State) (m : Motor) (v : Nat) : (s.dutyWrite m v).stabW = s.stabW := rfl
@[simp] theorem State.dutyWrite_pct (s : State) (m : Motor) (v : Nat) : (s.dutyWrite m v).pct = s.pct := rfl
@[simp] theorem State.dutyWrite_motor (s : State) (m : Motor) (v : Nat) : (s.dutyWrite m v).motor = s.motor := rfl
@[simp] theorem State.dutyWrite_dcmd (s : State) (m : Motor) (v : Nat) : (s.dutyWrite m v).dcmd = s.dcmd := rfl
@[simp] theorem State.dutyWrite_seq (s : State) (m : Motor) (v : Nat) : (s.dutyWrite m v).seq = s.seq := rfl
@[simp] theorem State.dutyWrite_wmask (s : State) (m : Motor) (v : Nat) : (s.dutyWrite m v).wmask = s.wmask := rfl
@[simp] theorem State.dutyWrite_framePin (s : State) (m : Motor) (v : Nat) : (s.dutyWrite m v).framePin = s.framePin := rfl
@[simp] theorem State.dutyWrite_dutyReg (s : State) (m : Motor) (v : Nat) : (s.dutyWrite m v).dutyReg = s.dutyReg.set m v := rfl
@[simp] theorem State.dutyWrite_dutyAct (s : State) (m : Motor) (v : Nat) : (s.dutyWrite m v).dutyAct = s.dutyAct := rfl
@[simp] theorem State.dutyWrite_tlm (s : State) (m : Motor) (v : Nat) : (s.dutyWrite m v).tlm = s.tlm := rfl
@[simp] theorem State.dutyWrite_cfg (s : State) (m : Motor) (v : Nat) : (s.dutyWrite m v).cfg = s.cfg := rfl
@[simp] theorem State.dutyWrite_trace (s : State) (m : Motor) (v : Nat) : (s.dutyWrite m v).trace = s.trace := rfl

/-! ### `setDutyAct` -/

@[simp] theorem State.setDutyAct_tick (s : State) (v : PerMotor Nat) : (s.setDutyAct v).tick = s.tick := rfl
@[simp] theorem State.setDutyAct_rcLvl (s : State) (v : PerMotor Nat) : (s.setDutyAct v).rcLvl = s.rcLvl := rfl
@[simp] theorem State.setDutyAct_phase (s : State) (v : PerMotor Nat) : (s.setDutyAct v).phase = s.phase := rfl
@[simp] theorem State.setDutyAct_startTs (s : State) (v : PerMotor Nat) : (s.setDutyAct v).startTs = s.startTs := rfl
@[simp] theorem State.setDutyAct_rawW (s : State) (v : PerMotor Nat) : (s.setDutyAct v).rawW = s.rawW := rfl
@[simp] theorem State.setDutyAct_live (s : State) (v : PerMotor Nat) : (s.setDutyAct v).live = s.live := rfl
@[simp] theorem State.setDutyAct_pend (s : State) (v : PerMotor Nat) : (s.setDutyAct v).pend = s.pend := rfl
@[simp] theorem State.setDutyAct_stabW (s : State) (v : PerMotor Nat) : (s.setDutyAct v).stabW = s.stabW := rfl
@[simp] theorem State.setDutyAct_pct (s : State) (v : PerMotor Nat) : (s.setDutyAct v).pct = s.pct := rfl
@[simp] theorem State.setDutyAct_motor (s : State) (v : PerMotor Nat) : (s.setDutyAct v).motor = s.motor := rfl
@[simp] theorem State.setDutyAct_dcmd (s : State) (v : PerMotor Nat) : (s.setDutyAct v).dcmd = s.dcmd := rfl
@[simp] theorem State.setDutyAct_seq (s : State) (v : PerMotor Nat) : (s.setDutyAct v).seq = s.seq := rfl
@[simp] theorem State.setDutyAct_wmask (s : State) (v : PerMotor Nat) : (s.setDutyAct v).wmask = s.wmask := rfl
@[simp] theorem State.setDutyAct_framePin (s : State) (v : PerMotor Nat) : (s.setDutyAct v).framePin = s.framePin := rfl
@[simp] theorem State.setDutyAct_dutyReg (s : State) (v : PerMotor Nat) : (s.setDutyAct v).dutyReg = s.dutyReg := rfl
@[simp] theorem State.setDutyAct_dutyAct (s : State) (v : PerMotor Nat) : (s.setDutyAct v).dutyAct = v := rfl
@[simp] theorem State.setDutyAct_tlm (s : State) (v : PerMotor Nat) : (s.setDutyAct v).tlm = s.tlm := rfl
@[simp] theorem State.setDutyAct_cfg (s : State) (v : PerMotor Nat) : (s.setDutyAct v).cfg = s.cfg := rfl
@[simp] theorem State.setDutyAct_trace (s : State) (v : PerMotor Nat) : (s.setDutyAct v).trace = s.trace := rfl

/-! ### `tlmAppend` -/

@[simp] theorem State.tlmAppend_tick (s : State) (v : List Byte) : (s.tlmAppend v).tick = s.tick := rfl
@[simp] theorem State.tlmAppend_rcLvl (s : State) (v : List Byte) : (s.tlmAppend v).rcLvl = s.rcLvl := rfl
@[simp] theorem State.tlmAppend_phase (s : State) (v : List Byte) : (s.tlmAppend v).phase = s.phase := rfl
@[simp] theorem State.tlmAppend_startTs (s : State) (v : List Byte) : (s.tlmAppend v).startTs = s.startTs := rfl
@[simp] theorem State.tlmAppend_rawW (s : State) (v : List Byte) : (s.tlmAppend v).rawW = s.rawW := rfl
@[simp] theorem State.tlmAppend_live (s : State) (v : List Byte) : (s.tlmAppend v).live = s.live := rfl
@[simp] theorem State.tlmAppend_pend (s : State) (v : List Byte) : (s.tlmAppend v).pend = s.pend := rfl
@[simp] theorem State.tlmAppend_stabW (s : State) (v : List Byte) : (s.tlmAppend v).stabW = s.stabW := rfl
@[simp] theorem State.tlmAppend_pct (s : State) (v : List Byte) : (s.tlmAppend v).pct = s.pct := rfl
@[simp] theorem State.tlmAppend_motor (s : State) (v : List Byte) : (s.tlmAppend v).motor = s.motor := rfl
@[simp] theorem State.tlmAppend_dcmd (s : State) (v : List Byte) : (s.tlmAppend v).dcmd = s.dcmd := rfl
@[simp] theorem State.tlmAppend_seq (s : State) (v : List Byte) : (s.tlmAppend v).seq = s.seq := rfl
@[simp] theorem State.tlmAppend_wmask (s : State) (v : List Byte) : (s.tlmAppend v).wmask = s.wmask := rfl
@[simp] theorem State.tlmAppend_framePin (s : State) (v : List Byte) : (s.tlmAppend v).framePin = s.framePin := rfl
@[simp] theorem State.tlmAppend_dutyReg (s : State) (v : List Byte) : (s.tlmAppend v).dutyReg = s.dutyReg := rfl
@[simp] theorem State.tlmAppend_dutyAct (s : State) (v : List Byte) : (s.tlmAppend v).dutyAct = s.dutyAct := rfl
@[simp] theorem State.tlmAppend_tlm (s : State) (v : List Byte) : (s.tlmAppend v).tlm = s.tlm ++ v := rfl
@[simp] theorem State.tlmAppend_cfg (s : State) (v : List Byte) : (s.tlmAppend v).cfg = s.cfg := rfl
@[simp] theorem State.tlmAppend_trace (s : State) (v : List Byte) : (s.tlmAppend v).trace = s.trace := rfl

/-! ### `setTrace` -/

@[simp] theorem State.setTrace_tick (s : State) (v : List Byte) : (s.setTrace v).tick = s.tick := rfl
@[simp] theorem State.setTrace_rcLvl (s : State) (v : List Byte) : (s.setTrace v).rcLvl = s.rcLvl := rfl
@[simp] theorem State.setTrace_phase (s : State) (v : List Byte) : (s.setTrace v).phase = s.phase := rfl
@[simp] theorem State.setTrace_startTs (s : State) (v : List Byte) : (s.setTrace v).startTs = s.startTs := rfl
@[simp] theorem State.setTrace_rawW (s : State) (v : List Byte) : (s.setTrace v).rawW = s.rawW := rfl
@[simp] theorem State.setTrace_live (s : State) (v : List Byte) : (s.setTrace v).live = s.live := rfl
@[simp] theorem State.setTrace_pend (s : State) (v : List Byte) : (s.setTrace v).pend = s.pend := rfl
@[simp] theorem State.setTrace_stabW (s : State) (v : List Byte) : (s.setTrace v).stabW = s.stabW := rfl
@[simp] theorem State.setTrace_pct (s : State) (v : List Byte) : (s.setTrace v).pct = s.pct := rfl
@[simp] theorem State.setTrace_motor (s : State) (v : List Byte) : (s.setTrace v).motor = s.motor := rfl
@[simp] theorem State.setTrace_dcmd (s : State) (v : List Byte) : (s.setTrace v).dcmd = s.dcmd := rfl
@[simp] theorem State.setTrace_seq (s : State) (v : List Byte) : (s.setTrace v).seq = s.seq := rfl
@[simp] theorem State.setTrace_wmask (s : State) (v : List Byte) : (s.setTrace v).wmask = s.wmask := rfl
@[simp] theorem State.setTrace_framePin (s : State) (v : List Byte) : (s.setTrace v).framePin = s.framePin := rfl
@[simp] theorem State.setTrace_dutyReg (s : State) (v : List Byte) : (s.setTrace v).dutyReg = s.dutyReg := rfl
@[simp] theorem State.setTrace_dutyAct (s : State) (v : List Byte) : (s.setTrace v).dutyAct = s.dutyAct := rfl
@[simp] theorem State.setTrace_tlm (s : State) (v : List Byte) : (s.setTrace v).tlm = s.tlm := rfl
@[simp] theorem State.setTrace_cfg (s : State) (v : List Byte) : (s.setTrace v).cfg = s.cfg := rfl
@[simp] theorem State.setTrace_trace (s : State) (v : List Byte) : (s.setTrace v).trace = v := rfl

end Sys2Proof.Machine
end

