-- ==== Sys2Proof/Laws/Ops.lean ====
section
/-! SUPPORT. What each shared operation can do, said once: the indexed elements, the enabling condition, the service,
the schedule, and sequences of operations. -/

namespace Sys2Proof

/-! ## Indexed elements -/

@[simp] theorem PerChannel.get_set_same {α : Type} (x : PerChannel α) (c : Channel) (v : α) :
    (x.set c v).get c = v := by
  cases c <;> rfl

theorem PerChannel.get_set_other {α : Type} (x : PerChannel α) {c d : Channel} (v : α) (h : d ≠ c) :
    (x.set c v).get d = x.get d := by
  cases c <;> cases d <;> first | rfl | exact absurd rfl h

@[simp] theorem PerChannel.set_get_self {α : Type} (x : PerChannel α) (c : Channel) : x.set c (x.get c) = x := by
  cases c <;> rfl

@[simp] theorem PerChannel.set_set {α : Type} (x : PerChannel α) (c : Channel) (v w : α) :
    (x.set c v).set c w = x.set c w := by
  cases c <;> rfl

@[simp] theorem PerChannel.get_map {α β : Type} (f : α → β) (x : PerChannel α) (c : Channel) :
    (x.map f).get c = f (x.get c) := by
  cases c <;> rfl

theorem PerChannel.ext_get {α : Type} {x y : PerChannel α} (h : ∀ c, x.get c = y.get c) : x = y := by
  obtain ⟨a, b⟩ := x
  obtain ⟨a', b'⟩ := y
  have hp : a = a' := h .pitch
  have hr : b = b' := h .roll
  rw [hp, hr]

@[simp] theorem PerMotor.get_set_same {α : Type} (x : PerMotor α) (m : Motor) (v : α) :
    (x.set m v).get m = v := by
  cases m <;> rfl

theorem PerMotor.get_set_other {α : Type} (x : PerMotor α) {m k : Motor} (v : α) (h : k ≠ m) :
    (x.set m v).get k = x.get k := by
  cases m <;> cases k <;> first | rfl | exact absurd rfl h

@[simp] theorem PerMotor.get_map {α β : Type} (f : α → β) (x : PerMotor α) (m : Motor) :
    (x.map f).get m = f (x.get m) := by
  cases m <;> rfl

theorem PerMotor.ext_get {α : Type} {x y : PerMotor α} (h : ∀ m, x.get m = y.get m) : x = y := by
  obtain ⟨a, b, c, d⟩ := x
  obtain ⟨a', b', c', d'⟩ := y
  have h0 : a = a' := h .m0
  have h1 : b = b' := h .m1
  have h2 : c = c' := h .m2
  have h3 : d = d' := h .m3
  rw [h0, h1, h2, h3]

namespace Machine

/-! ## The enabling condition -/

/-- An attempt answers a next state exactly when its condition holds, and then that state is the given one. -/
theorem attempt_next_iff {i : Instr} {en : Bool} {t u : State} :
    attempt i en t = .next u ↔ en = true ∧ u = t := by
  cases en with
  | true => simp [attempt, eq_comm]
  | false => simp [attempt]

/-- An attempt is refused exactly when its condition fails, and by the operation's own name. -/
theorem attempt_refused_iff {i : Instr} {en : Bool} {t : State} {r : Refusal} :
    attempt i en t = .refused r ↔ en = false ∧ r = .disabled i := by
  cases en with
  | true => simp [attempt]
  | false => simp [attempt, eq_comm]

@[simp] theorem attempt_true (i : Instr) (t : State) : attempt i true t = .next t := rfl

@[simp] theorem attempt_false (i : Instr) (t : State) : attempt i false t = .refused (.disabled i) := rfl

/-! ## The service of a channel -/

/-- Taking a service runs the handler's body on the state before the step, then clears the channel's condition. -/
theorem takeService_eq (c : Channel) (body : State → State) (s : State) :
    takeService c body s = (body s).setPend c false := rfl

theorem captureBody_rising {c : Channel} {s : State} (h : s.phase.get c = .awaitingRising) :
    captureBody c s = ((s.setStartTs c s.tick).setPhase c .awaitingFalling).setLive true := by
  simp only [captureBody, h]

theorem captureBody_falling {c : Channel} {s : State} (h : s.phase.get c = .awaitingFalling) :
    captureBody c s =
      ((s.setRawW c (pulseWidth s.cfg (s.startTs.get c) s.tick)).setPhase c .awaitingRising).setLive true := by
  simp only [captureBody, h]

/-! ## What each operation does, if it answers a next state -/

theorem execTick_next_iff {s t : State} :
    exec .tick s = .next t ↔ t = s.setTick (tickSucc s.cfg s.tick) := by
  simp [exec, execTick, eq_comm]

theorem execEdge_next_iff {c : Channel} {pol : Polarity} {s t : State} :
    exec (.edge c pol) s = .next t ↔ s.rcLvl.get c = levelBefore pol ∧
      t = (s.setRcLvl c (levelAfter pol)).setPend c (pendAfterEdge (s.phase.get c) pol (s.pend.get c)) := by
  simp [exec, execEdge, attempt_next_iff]

theorem execSvc_next_iff {c : Channel} {s t : State} :
    exec (.svc c) s = .next t ↔ s.pend.get c = true ∧ t = (captureBody c s).setPend c false := by
  simp [exec, execSvc, attempt_next_iff, takeService_eq]

theorem execFrame_next_iff {lvl : Level} {s t : State} :
    exec (.frame lvl) s = .next t ↔ t = s.setFramePin lvl := by
  simp [exec, execFrame, eq_comm]

theorem execWopen_next_iff {s t : State} :
    exec .wopen s = .next t ↔ s.seq = .atOpen ∧ t = (s.setLive false).setSeq .atWait := by
  simp [exec, execWopen, attempt_next_iff]

theorem execWclose_next_iff {s t : State} :
    exec .wclose s = .next t ↔ s.seq = .atWait ∧
      t = (s.setStabW (snapshot s.live s.rawW)).setSeq .atConvert := by
  simp [exec, execWclose, attempt_next_iff]

theorem execConv_next_iff {s t : State} :
    exec .conv s = .next t ↔ s.seq = .atConvert ∧
      t = (s.setPct (s.stabW.map fun w => storePct (percent w))).setSeq .atZero := by
  simp [exec, execConv, attempt_next_iff]

theorem execMzero_next_iff {s t : State} :
    exec .mzero s = .next t ↔ s.seq = .atZero ∧
      t = (s.setMotor ⟨0#16, 0#16, 0#16, 0#16⟩).setSeq .atMix := by
  simp [exec, execMzero, attempt_next_iff]

theorem execMix_next_iff {s t : State} :
    exec .mix s = .next t ↔ s.seq = .atMix ∧ t = (s.setMotor (mixedMotors s)).setSeq .atApply := by
  simp [exec, execMix, attempt_next_iff]

theorem execApply_next_iff {s t : State} :
    exec .apply s = .next t ↔ s.seq = .atApply ∧
      t = ((s.setDcmd (s.motor.map fun v => duty s.cfg (shape v.toInt))).setWmask 0b0000#4).setSeq .atWrite := by
  simp [exec, execApply, attempt_next_iff]

theorem execDwrite_next_iff {m : Motor} {s t : State} :
    exec (.dwrite m) s = .next t ↔ (s.seq = .atWrite ∧ maskHas s.wmask m = false) ∧
      t = ((s.dutyWrite m (s.dcmd.get m)).setWmask (maskWith s.wmask m)).setSeq
        (if maskFull (maskWith s.wmask m) then .atEmit else s.seq) := by
  simp [exec, execDwrite, attempt_next_iff]

theorem execPwmb_next_iff {s t : State} :
    exec .pwmb s = .next t ↔ t = s.setDutyAct s.dutyReg := by
  simp [exec, execPwmb, eq_comm]

theorem execEmit_next_iff {s t : State} :
    exec .emit s = .next t ↔ s.seq = .atEmit ∧
      t = (s.tlmAppend (tlmLine s.cfg s.stabW s.pct)).setSeq .atOpen := by
  simp [exec, execEmit, attempt_next_iff]

/-! ## The schedule -/

/-- A step that answers a next state performed the operation its schedule named. -/
theorem step_next_cases {s t : State} (h : step s = .next t) :
    ∃ i rest, decode s.trace = .legal i rest ∧ exec i (s.setTrace rest) = .next t := by
  unfold step State.fetch State.consume at h
  split at h
  · exact ⟨_, _, ‹_›, h⟩
  · exact absurd h (by simp)
  · exact absurd h (by simp)

/-! ## Sequences of operations -/

@[simp] theorem perform_nil (s : State) : perform [] s = .next s := rfl

theorem perform_cons_next_iff {i : Instr} {is : List Instr} {s u : State} :
    perform (i :: is) s = .next u ↔ ∃ t, exec i s = .next t ∧ perform is t = .next u := by
  simp only [perform]
  split <;> simp_all

theorem perform_append_next_iff {is js : List Instr} {s u : State} :
    perform (is ++ js) s = .next u ↔ ∃ t, perform is s = .next t ∧ perform js t = .next u := by
  induction is generalizing s with
  | nil => simp
  | cons i is ih =>
    simp only [List.cons_append, perform_cons_next_iff, ih]
    constructor
    · rintro ⟨t, ht, v, hv, hu⟩
      exact ⟨v, ⟨t, ht, hv⟩, hu⟩
    · rintro ⟨v, ⟨t, ht, hv⟩, hu⟩
      exact ⟨t, ht, v, hv, hu⟩

/-- What every operation of a sequence keeps, the sequence keeps. -/
theorem perform_keeps {P : State → Prop} {is : List Instr}
    (keeps : ∀ i ∈ is, ∀ s t : State, P s → exec i s = .next t → P t) {s u : State}
    (hs : P s) (h : perform is s = .next u) : P u := by
  induction is generalizing s with
  | nil =>
    obtain rfl : s = u := by simpa using h
    exact hs
  | cons i is ih =>
    obtain ⟨t, ht, hu⟩ := perform_cons_next_iff.mp h
    exact ih (fun j hj => keeps j (List.mem_cons_of_mem _ hj)) (keeps i List.mem_cons_self s t hs ht) hu

end Machine

end Sys2Proof
end

