-- ==== Sys2Proof/Laws/PerInstr.lean ====
section
/-! SUPPORT. The family `OwnRow`: the word of every operation lies in the opcode-map row of its own mnemonic (R68). -/

namespace Sys2Proof.Laws.OwnRow

/-- Some row of the opcode map carries the operation's mnemonic and covers its word. -/
def Statement (i : Instr) : Prop :=
  ∃ r ∈ opcodeMap, r.mnemonic = i.mnemonic ∧ r.covers (encodeWord i) = true

theorem tick : Statement .tick := ⟨opcodeMap[0], by simp [opcodeMap], rfl, by decide⟩
theorem edge (c : Channel) (pol : Polarity) : Statement (.edge c pol) :=
  ⟨opcodeMap[1], by simp [opcodeMap], rfl, by cases c <;> cases pol <;> decide⟩
theorem svc (c : Channel) : Statement (.svc c) :=
  ⟨opcodeMap[2], by simp [opcodeMap], rfl, by cases c <;> decide⟩
theorem frame (lvl : Level) : Statement (.frame lvl) :=
  ⟨opcodeMap[3], by simp [opcodeMap], rfl, by cases lvl <;> decide⟩
theorem wopen : Statement .wopen := ⟨opcodeMap[4], by simp [opcodeMap], rfl, by decide⟩
theorem wclose : Statement .wclose := ⟨opcodeMap[5], by simp [opcodeMap], rfl, by decide⟩
theorem conv : Statement .conv := ⟨opcodeMap[6], by simp [opcodeMap], rfl, by decide⟩
theorem mzero : Statement .mzero := ⟨opcodeMap[7], by simp [opcodeMap], rfl, by decide⟩
theorem mix : Statement .mix := ⟨opcodeMap[8], by simp [opcodeMap], rfl, by decide⟩
theorem apply : Statement .apply := ⟨opcodeMap[9], by simp [opcodeMap], rfl, by decide⟩
theorem dwrite (m : Motor) : Statement (.dwrite m) :=
  ⟨opcodeMap[10], by simp [opcodeMap], rfl, by cases m <;> decide⟩
theorem pwmb : Statement .pwmb := ⟨opcodeMap[11], by simp [opcodeMap], rfl, by decide⟩
theorem emit : Statement .emit := ⟨opcodeMap[12], by simp [opcodeMap], rfl, by decide⟩

end Sys2Proof.Laws.OwnRow
end

