-- ==== Sys2Proof/Tests/Slice0.lean ====
section
/-! SUPPORT. Tests of the model. Every expected value is the spec's: the vectors of 95_test_vectors.md (named by their
section or number) or the corner cases of the rule named. Then, for each statement with hypotheses, a witness that
meets them. -/

namespace Sys2Proof.Tests

open Sys2Proof.Machine Sys2Proof.Safety

/-! ## Helpers -/

/-- The reset state of the vectors' parameters: `TICK_W` = 16, `DUTY_FULL` = 255, `NEWLINE` = LF. -/
def s16 : State := State.resetWith Config.reference

/-- The parameters of program P3: `TICK_W` = 32, `DUTY_FULL` = 1023, `DUTY_W` = 10. -/
def cfg32 : Config := { Config.reference with tickW := 32, tickInit := 4294967290, dutyFull := 1023, dutyW := 10 }

/-- The outcome is a next state with the property. -/
def nextHas (o : Host.Outcome State Fault Refusal) (p : State → Bool) : Bool :=
  match o with
  | .next t => p t
  | .fault _ => false
  | .refused _ => false

/-- The outcome is this refusal. -/
def refusedBy (o : Host.Outcome State Fault Refusal) (r : Refusal) : Bool :=
  match o with
  | .next _ => false
  | .fault _ => false
  | .refused q => decide (q = r)

/-! ## WellFormed: one ill-formed term for each check (R9 to R12) -/

theorem test_reference_wf : Config.reference.wf = true := by decide
theorem test_cfg32_wf : cfg32.wf = true := by decide
theorem test_wf_refuses_narrow_tick : { Config.reference with tickW := 11 }.wf = false := by decide
theorem test_wf_refuses_tick_init : { Config.reference with tickInit := 65536 }.wf = false := by decide
theorem test_wf_refuses_zero_full_scale : { Config.reference with dutyFull := 0 }.wf = false := by decide
theorem test_wf_refuses_narrow_duty : { Config.reference with dutyW := 7 }.wf = false := by decide
theorem test_wf_refuses_duty_init : { Config.reference with dutyInit := ⟨0, 0, 0, 256⟩ }.wf = false := by decide
theorem test_wf_keeps_boundary_values :
    { Config.reference with tickW := 12, tickInit := 4095, dutyFull := 1, dutyW := 1, dutyInit := ⟨1, 1, 1, 1⟩ }.wf
      = true := by decide
theorem test_trace_refuses_reserved_word : traceLegal [0x50#8, 0x51#8, 0x53#8] = false := by decide

/-! ## Decode: words written out bit by bit from R68 -/

theorem test_decode_tick : decode [0b00010000#8] = .legal .tick [] := by decide
theorem test_decode_edge_pitch_rise : decode [0b00100000#8] = .legal (.edge .pitch .rise) [] := by decide
theorem test_decode_edge_roll_rise : decode [0b00100001#8] = .legal (.edge .roll .rise) [] := by decide
theorem test_decode_edge_pitch_fall : decode [0b00100010#8] = .legal (.edge .pitch .fall) [] := by decide
theorem test_decode_edge_roll_fall : decode [0b00100011#8] = .legal (.edge .roll .fall) [] := by decide
theorem test_decode_svc_pitch : decode [0b00110000#8] = .legal (.svc .pitch) [] := by decide
theorem test_decode_svc_roll : decode [0b00110001#8] = .legal (.svc .roll) [] := by decide
theorem test_decode_frame_x : decode [0b01000000#8] = .legal (.frame .low) [] := by decide
theorem test_decode_frame_plus : decode [0b01000001#8] = .legal (.frame .high) [] := by decide
theorem test_decode_wopen : decode [0b01010000#8] = .legal .wopen [] := by decide
theorem test_decode_wclose : decode [0b01010001#8] = .legal .wclose [] := by decide
theorem test_decode_conv : decode [0b01010010#8] = .legal .conv [] := by decide
theorem test_decode_mzero : decode [0b01100000#8] = .legal .mzero [] := by decide
theorem test_decode_mix : decode [0b01100001#8] = .legal .mix [] := by decide
theorem test_decode_apply : decode [0b01110000#8] = .legal .apply [] := by decide
theorem test_decode_dwrite_0 : decode [0b10000000#8] = .legal (.dwrite .m0) [] := by decide
theorem test_decode_dwrite_1 : decode [0b10000001#8] = .legal (.dwrite .m1) [] := by decide
theorem test_decode_dwrite_2 : decode [0b10000010#8] = .legal (.dwrite .m2) [] := by decide
theorem test_decode_dwrite_3 : decode [0b10000011#8] = .legal (.dwrite .m3) [] := by decide
theorem test_decode_pwmb : decode [0b10010000#8] = .legal .pwmb [] := by decide
theorem test_decode_emit : decode [0b10100000#8] = .legal .emit [] := by decide
/-- §2.12: the Invalid words. -/
theorem test_decode_invalid_words :
    ([0x00#8, 0x11#8, 0x24#8, 0x32#8, 0x42#8, 0x53#8, 0x62#8, 0x71#8, 0x84#8, 0xA1#8, 0xFF#8].map fun w => decode [w])
      = [.invalid 0x00#8, .invalid 0x11#8, .invalid 0x24#8, .invalid 0x32#8, .invalid 0x42#8, .invalid 0x53#8,
         .invalid 0x62#8, .invalid 0x71#8, .invalid 0x84#8, .invalid 0xA1#8, .invalid 0xFF#8] := by decide
theorem test_decode_reads_one_byte : decode [0x83#8, 0x10#8] = .legal (.dwrite .m3) [0x10#8] := by decide
theorem test_table_words :
    ([0x10, 0x23, 0x31, 0x41, 0x83, 0x84].map fun w => decodeTableWord 8 w) =
      [some .tick, some (.edge .roll .fall), some (.svc .roll), some (.frame .high), some (.dwrite .m3), none] := by
  decide

/-! ## TICK (§2.1) -/

theorem test_tick_wraps : nextHas (exec .tick { s16 with tick := 65535 }) (fun t => t.tick == 0) = true := by decide
theorem test_tick_counts_32 :
    nextHas (exec .tick { State.resetWith cfg32 with tick := 4294967295 }) (fun t => t.tick == 0) = true := by decide

/-! ## EDGE (§2.3) -/

/-- E9. -/
theorem test_edge_recognized : nextHas (exec (.edge .roll .rise) s16)
    (fun t => t.rcLvl == ⟨.low, .high⟩ && t.pend == ⟨false, true⟩) = true := by decide
/-- E3, and E8 beside it. -/
theorem test_edge_not_recognized :
    nextHas (exec (.edge .pitch .rise) { s16 with phase := ⟨.awaitingFalling, .awaitingRising⟩ })
      (fun t => t.rcLvl == ⟨.high, .low⟩ && t.pend == ⟨false, false⟩) = true ∧
    refusedBy (exec (.edge .pitch .fall) s16) (.disabled (.edge .pitch .fall)) = true := by decide

/-! ## SVC (§2.4) -/

/-- S1. -/
theorem test_svc_rising :
    nextHas (exec (.svc .pitch) { s16 with pend := ⟨true, false⟩, tick := 100 })
      (fun t => t.startTs.pitch == 100 && t.phase == ⟨.awaitingFalling, .awaitingRising⟩ && t.live &&
        t.pend == ⟨false, false⟩ && t.rawW == ⟨0, 0⟩) = true := by decide
/-- S3: the counter wrapped. -/
theorem test_svc_falling_wraps :
    nextHas (exec (.svc .roll) { s16 with phase := ⟨.awaitingRising, .awaitingFalling⟩, pend := ⟨false, true⟩,
                                          startTs := ⟨7, 65000⟩, tick := 1000 })
      (fun t => t.rawW == ⟨0, 1536⟩ && t.phase.roll == .awaitingRising && t.pend == ⟨false, false⟩) = true := by decide

/-! ## WOPEN, WCLOSE (§2.5) -/

/-- W1 and W7. -/
theorem test_wopen : nextHas (exec .wopen { s16 with live := true }) (fun t => !t.live && t.seq == .atWait) = true ∧
    refusedBy (exec .wopen { s16 with seq := .atConvert }) (.disabled .wopen) = true := by decide
/-- W2. -/
theorem test_wclose_failsafe :
    nextHas (exec .wclose { s16 with seq := .atWait, rawW := ⟨1800, 1200⟩ })
      (fun t => t.stabW == ⟨1500, 1500⟩ && t.seq == .atConvert) = true := by decide
/-- W3. -/
theorem test_wclose_snapshot :
    nextHas (exec .wclose { s16 with seq := .atWait, live := true, rawW := ⟨1800, 1200⟩ })
      (fun t => t.stabW == ⟨1800, 1200⟩ && t.seq == .atConvert && t.live) = true := by decide

/-! ## CONV (§2.2, §2.6) -/

/-- §2.2, the single points. -/
theorem test_percent_points :
    ([0, 900, 901, 903, 1000, 1001, 1002, 1003, 1350, 1497, 1498, 1500, 1502, 1503, 1700, 1800, 1997, 1998, 2000, 2099,
      2100, 20000, 65535, 4294967295].map percent) =
      [0, 0, -100, -100, -100, -100, -100, -99, -30, -1, 0, 0, 0, 1, 40, 60, 99, 100, 100, 100, 0, 0, 0, 0] := by decide
theorem test_conv : nextHas (exec .conv { s16 with seq := .atConvert, stabW := ⟨1350, 1700⟩ })
    (fun t => t.pct.pitch.toInt == -30 && t.pct.roll.toInt == 40 && t.seq == .atZero) = true := by decide

/-! ## FRAME, MZERO, MIX (§2.7) -/

theorem test_frame : nextHas (exec (.frame .high) s16) (fun t => t.framePin == .high) = true := by decide
theorem test_mzero : nextHas (exec .mzero { s16 with seq := .atZero, motor := ⟨70#16, 30#16, 0#16, 40#16⟩ })
    (fun t => t.motor == ⟨0#16, 0#16, 0#16, 0#16⟩ && t.seq == .atMix) = true := by decide
/-- Scenario A (L1.8) and the row −30, 40. -/
theorem test_mix_plus :
    nextHas (exec .mix { s16 with seq := .atMix, framePin := .high, pct := ⟨60#8, 0#8⟩ })
      (fun t => t.motor == ⟨0#16, 0#16, 60#16, 0#16⟩ && t.seq == .atApply) = true ∧
    nextHas (exec .mix { s16 with seq := .atMix, framePin := .high, pct := ⟨BitVec.ofInt 8 (-30), 40#8⟩ })
      (fun t => t.motor == ⟨30#16, 0#16, 0#16, 40#16⟩) = true := by decide
/-- Scenario B (L1.9), and the row −100, 100. -/
theorem test_mix_x :
    nextHas (exec .mix { s16 with seq := .atMix, framePin := .low, pct := ⟨BitVec.ofInt 8 (-30), 40#8⟩ })
      (fun t => t.motor == ⟨70#16, 30#16, 0#16, 40#16⟩) = true ∧
    nextHas (exec .mix { s16 with seq := .atMix, framePin := .low, pct := ⟨BitVec.ofInt 8 (-100), 100#8⟩ })
      (fun t => t.motor == ⟨200#16, 100#16, 0#16, 100#16⟩) = true := by decide

/-! ## APPLY, DWRITE, PWMB (§2.8, §2.9) -/

/-- §2.8, the table of single values at both full scales. -/
theorem test_duty_points :
    ([-200, -1, 0, 1, 4, 5, 6, 30, 50, 99, 100, 101, 150, 200].map fun x => duty Config.reference (shape x)) =
      [0, 0, 0, 0, 0, 13, 15, 77, 128, 252, 255, 255, 255, 255] ∧
    ([-200, 4, 5, 6, 50, 99, 100, 200].map fun x => duty cfg32 (shape x)) =
      [0, 0, 51, 61, 512, 1013, 1023, 1023] := by decide
/-- R121's example. -/
theorem test_apply : nextHas (exec .apply { s16 with seq := .atApply, wmask := 0b1111#4,
                                                     motor := ⟨70#16, 30#16, 0#16, 40#16⟩ })
    (fun t => t.dcmd == ⟨179, 77, 0, 102⟩ && t.wmask == 0#4 && t.seq == .atWrite) = true := by decide
/-- P1 to P4. -/
theorem test_dwrite :
    nextHas (exec (.dwrite .m0) { s16 with seq := .atWrite, dcmd := ⟨179, 77, 0, 102⟩ })
      (fun t => t.dutyReg == ⟨179, 0, 0, 0⟩ && t.wmask == 0b0001#4 && t.seq == .atWrite) = true ∧
    refusedBy (exec (.dwrite .m2) { s16 with seq := .atWrite, wmask := 0b0100#4 }) (.disabled (.dwrite .m2)) = true ∧
    refusedBy (exec (.dwrite .m0) { s16 with seq := .atEmit }) (.disabled (.dwrite .m0)) = true := by decide
theorem test_dwrite_last :
    nextHas (exec (.dwrite .m3) { s16 with seq := .atWrite, wmask := 0b0111#4, dcmd := ⟨179, 77, 0, 102⟩ })
      (fun t => t.dutyReg.m3 == 102 && t.wmask == 0b1111#4 && t.seq == .atEmit) = true := by decide
/-- P5. -/
theorem test_pwmb : nextHas (exec .pwmb { s16 with dutyReg := ⟨255, 0, 0, 0⟩ })
    (fun t => t.dutyAct == ⟨255, 0, 0, 0⟩) = true := by decide

/-! ## EMIT (§2.10) -/

theorem test_emit_line :
    nextHas (exec .emit { s16 with seq := .atEmit, stabW := ⟨1000, 2000⟩, pct := ⟨BitVec.ofInt 8 (-100), 100#8⟩ })
      (fun t => t.tlm == [0x31#8, 0x30#8, 0x30#8, 0x30#8, 0x2C#8, 0x2D#8, 0x31#8, 0x30#8, 0x30#8, 0x20#8, 0x32#8, 0x30#8,
          0x30#8, 0x30#8, 0x2C#8, 0x31#8, 0x30#8, 0x30#8, 0x20#8, 0x0A#8] && t.seq == .atOpen) = true := by decide
theorem test_emit_widest_width_crlf :
    nextHas (exec .emit { s16 with seq := .atEmit, cfg := { Config.reference with newline := .crlf },
                                   stabW := ⟨65535, 900⟩ })
      (fun t => t.tlm == [0x36#8, 0x35#8, 0x35#8, 0x33#8, 0x35#8, 0x2C#8, 0x30#8, 0x20#8, 0x39#8, 0x30#8, 0x30#8, 0x2C#8,
          0x30#8, 0x20#8, 0x0D#8, 0x0A#8]) = true := by decide

/-! ## Stepping, the trace syntax, reset -/

theorem test_step_runs_next_word : nextHas (step { s16 with trace := [0x50#8, 0x51#8] })
    (fun t => t.seq == .atWait && t.trace == [0x51#8]) = true := by decide
theorem test_step_refuses : refusedBy (step { s16 with trace := [0x53#8] }) (.reservedWord 0x53#8) = true ∧
    refusedBy (step s16) .traceEnd = true ∧
    refusedBy (step { s16 with trace := [0x51#8] }) (.disabled .wclose) = true := by decide
/-- Every legal word, placed by `withFetchWord` after reset, is the operation the next step performs. -/
theorem test_every_word_runs_first :
    ([0x10, 0x20, 0x21, 0x22, 0x23, 0x30, 0x31, 0x40, 0x41, 0x50, 0x51, 0x52, 0x60, 0x61, 0x70, 0x80, 0x81, 0x82, 0x83,
      0x90, 0xA0].all fun w => nextHas (step (State.reset.withFetchWord 8 w)) fun t => t.trace == []) = true := by decide
/-- R85: a comment, aliases, mixed case, both separators, and TICKS (R86). -/
theorem test_trace_syntax :
    parseTrace "edge pitch, RISE ; SVC 0 # the rising service\nTicks 2;FRAME plus\n\nDWRITE 3".toList =
      some [.edge .pitch .rise, .svc .pitch, .tick, .tick, .frame .high, .dwrite .m3] := by decide
theorem test_trace_syntax_refuses : parseTrace "DWRITE 4".toList = none := by decide
theorem test_reset_meets_table : State.reset.IsReset := by decide
theorem test_observe_reset_tick : (State.resetWith cfg32).observe .tick = [4294967290] := by decide
/-- R42: the codes 0 to 7 and the states, in the rule's order. -/
theorem test_seq_codes : ([0#3, 1#3, 2#3, 3#3, 4#3, 5#3, 6#3, 7#3].map seqOfCode) =
    [.atOpen, .atWait, .atConvert, .atZero, .atMix, .atApply, .atWrite, .atEmit] ∧
    ([SeqState.atOpen, .atWait, .atConvert, .atZero, .atMix, .atApply, .atWrite, .atEmit].map fun q => (seqCode q).toNat) =
      [0, 1, 2, 3, 4, 5, 6, 7] := by decide

/-! ## Witnesses: for each statement with hypotheses, states and operands that meet them together -/

/-- The next state of an outcome; the reset state where there is none. -/
def after (o : Host.Outcome State Fault Refusal) : State :=
  match o with
  | .next t => t
  | .fault _ => s16
  | .refused _ => s16

/-- Some next state. -/
def runs (o : Host.Outcome State Fault Refusal) : Bool := nextHas o fun _ => true

/-- At MIX, with the motors zeroed. -/
def atMixing (frame : Level) (p r : Int) : State :=
  { s16 with seq := .atMix, framePin := frame, pct := ⟨BitVec.ofInt 8 p, BitVec.ofInt 8 r⟩ }

/-- A window with edges on the pitch line. -/
def inWait : State := { s16 with seq := .atWait, live := true, rawW := ⟨1800, 1200⟩ }

/-- The same in the last sequencer state before the telemetry line. -/
def atLine : State := after (perform [.wclose, .conv, .mzero, .mix, .apply, .dwrite .m3, .dwrite .m1, .dwrite .m0,
  .dwrite .m2] inWait)

/-- The roll channel armed for a falling edge, with its service pending. -/
def rollFalling : State :=
  { s16 with phase := ⟨.awaitingRising, .awaitingFalling⟩, pend := ⟨true, true⟩, tick := 5, startTs := ⟨0, 5⟩ }

theorem witness_EdgeMovesThePinAndMarksArmedTransitions :
    s16.rcLvl.get .pitch = .low ∧ s16.phase.get .pitch = .awaitingRising ∧
    rollFalling.rcLvl.get .roll = .low ∧ rollFalling.phase.get .roll = .awaitingFalling ∧
    ({ rollFalling with rcLvl := ⟨.high, .high⟩ } : State).rcLvl.get .roll = .high := by decide

theorem witness_ServiceStampsOrMeasuresAndClearsItsCondition :
    rollFalling.pend.get .pitch = true ∧ rollFalling.phase.get .pitch = .awaitingRising ∧
    rollFalling.pend.get .roll = true ∧ rollFalling.phase.get .roll = .awaitingFalling ∧
    s16.pend.get .pitch = false := by decide

/-- Both cases of the wrap, at their boundary (start and tick equal; start one past tick). -/
theorem witness_WidthIsTheTickCountBetweenServices_single :
    rollFalling.startTs.get .roll ≤ rollFalling.tick ∧ rollFalling.tick < 2 ^ rollFalling.cfg.tickW ∧
    nextHas (exec (.svc .roll) rollFalling) (fun t => t.rawW.roll == 0) = true ∧
    nextHas (exec (.svc .roll) { rollFalling with startTs := ⟨0, 6⟩ }) (fun t => t.rawW.roll == 65535) = true := by
  decide

theorem witness_WidthIsTheTickCountBetweenServices_run :
    let s := { s16 with tick := 65535, rcLvl := ⟨.high, .low⟩, pend := ⟨true, false⟩ }
    let t := after (exec (.svc .pitch) s)
    let between := [Instr.tick, .frame .high, .edge .pitch .fall, .tick]
    let u := after (perform between t)
    let v := after (exec (.svc .pitch) u)
    s.phase.get .pitch = .awaitingRising ∧ s.tick < 2 ^ s.cfg.tickW ∧ exec (.svc .pitch) s = .next t ∧
    Instr.svc .pitch ∉ between ∧ perform between t = .next u ∧ exec (.svc .pitch) u = .next v ∧
    v.rawW.get .pitch = 2 :=
  ⟨rfl, by decide, rfl, by decide, rfl, rfl, rfl⟩

theorem witness_ChannelsAreIndependent :
    exec (.svc .roll) rollFalling = .next (after (exec (.svc .roll) rollFalling)) ∧
    Instr.svc .roll ≠ .svc .pitch ∧ (∀ pol, Instr.svc .roll ≠ .edge .pitch pol) ∧ rollFalling.pend = ⟨true, true⟩ :=
  ⟨rfl, by decide, by intro pol; cases pol <;> decide, rfl⟩

theorem witness_PendingConditionWaitsForItsService :
    rollFalling.pend.get .pitch = true ∧ Instr.svc .pitch ∉ [Instr.svc .roll, .tick, .edge .pitch .rise] ∧
    perform [.svc .roll, .tick, .edge .pitch .rise] rollFalling =
      .next (after (perform [.svc .roll, .tick, .edge .pitch .rise] rollFalling)) ∧
    exec (.svc .roll) rollFalling = .next (after (exec (.svc .roll) rollFalling)) :=
  ⟨rfl, by decide, rfl, rfl⟩

theorem witness_WopenClearsLiveAndStartsTheWindow : s16.seq = .atOpen ∧ inWait.seq ≠ .atOpen := by decide

theorem witness_WcloseSnapshotsOrFailsSafe :
    inWait.seq = .atWait ∧ inWait.live = true ∧ ({ inWait with live := false } : State).live = false ∧
    s16.seq ≠ .atWait := by decide

/-- The four boundaries of validity, two in each state. -/
theorem witness_ConvMapsEachWidthToItsPercent :
    nextHas (exec .conv { s16 with seq := .atConvert, stabW := ⟨900, 901⟩ })
      (fun t => t.pct.pitch.toInt == 0 && t.pct.roll.toInt == -100) = true ∧
    nextHas (exec .conv { s16 with seq := .atConvert, stabW := ⟨2099, 2100⟩ })
      (fun t => t.pct.pitch.toInt == 100 && t.pct.roll.toInt == 0) = true ∧ s16.seq ≠ .atConvert := by decide

/-- The boundary values of the clauses: 900 and 2100, 901 and 1000, 2000 and 2099, `t` = 0, 2, 3, 997, 998, 1000 and
`p` = -99, 99. -/
theorem witness_PercentRangeRoundingAndMonotonicity :
    ([900, 2100, 901, 1000, 2000, 2099, 1000 + 0, 1000 + 2, 1000 + 3, 1000 + 997, 1000 + 998, 1000 + 1000].map percent) =
      [0, 0, -100, -100, 100, 100, -100, -100, -99, 99, 100, 100] := by decide

theorem witness_PercentOfOneChannelIgnoresTheOther :
    let s := { s16 with seq := .atConvert, stabW := ⟨1350, 1700⟩ }
    let s' := { s16 with seq := .atConvert, stabW := ⟨1350, 900⟩ }
    s.stabW.get .pitch = s'.stabW.get .pitch ∧ exec .conv s = .next (after (exec .conv s)) ∧
    exec .conv s' = .next (after (exec .conv s')) := ⟨rfl, rfl, rfl⟩

theorem witness_SnapshotAfterLaterServicesCopiesTheirWidths :
    let s := { rollFalling with seq := .atWait, live := true, tick := 1505 }
    let between := [Instr.tick, .svc .roll, .frame .high]
    s.seq = .atWait ∧ s.live = true ∧ (∀ i ∈ between, i.agent ≠ .seq) ∧
    perform between s = .next (after (perform between s)) := ⟨rfl, rfl, by decide, rfl⟩

theorem witness_SignalLossGivesZeroDuties :
    let between := [Instr.tick, .edge .pitch .rise, .frame .high]
    s16.seq = .atOpen ∧ (∀ i ∈ between, i.agent = .env) ∧
    perform (.wopen :: between) s16 = .next (after (perform (.wopen :: between) s16)) := ⟨rfl, by decide, rfl⟩

theorem witness_MzeroClearsAllMotors :
    ({ s16 with seq := .atZero } : State).seq = .atZero ∧ s16.seq ≠ .atZero := by decide

/-- Both frames, each with a negative and a non-negative percent, a sum at each end of 16 bits, and the disabled
case. -/
theorem witness_MixAppliesTheFrameTables :
    nextHas (exec .mix { atMixing .low 67 0 with motor := ⟨0#16, 0#16, 0x8000#16, 32700#16⟩ })
      (fun t => t.motor.m3.toInt == 32767) = true ∧
    nextHas (exec .mix { atMixing .low (-1) 0 with motor := ⟨0x8000#16, 0#16, 0x8000#16, 0#16⟩ })
      (fun t => t.motor.m2.toInt == -32768) = true ∧
    (atMixing .high (-30) 0).seq = .atMix ∧ (atMixing .high (-30) 0).framePin = .high ∧
    (atMixing .low 0 (-1)).framePin = .low ∧ (atMixing .high (-30) 0).pct.pitch.toInt = -30 ∧
    s16.seq ≠ .atMix := by decide

theorem witness_MixFromZeroHasTheClosedForms :
    (atMixing .high (-30) 40).seq = .atMix ∧ (atMixing .high (-30) 40).motor = ⟨0#16, 0#16, 0#16, 0#16⟩ ∧
    (atMixing .high (-30) 40).framePin = .high ∧ (atMixing .low (-30) 40).framePin = .low := by decide

/-- Each corner that the statement names, and the centre, in both frames. -/
theorem witness_MixerOutputRanges :
    ([(100, 100), (-100, 100), (-100, -100), (100, -100), (0, 0)].all fun (p, r) =>
      let s := atMixing .low p r
      let t := atMixing .high p r
      s.pct.pitch.toInt == p && s.pct.roll.toInt == r && s.motor == ⟨0#16, 0#16, 0#16, 0#16⟩ && runs (exec .mix s) &&
        t.pct.pitch.toInt == p && t.pct.roll.toInt == r && runs (exec .mix t)) = true := by decide

/-- The boundaries of the dead-zone and of the clamp in one state. -/
theorem witness_ApplyShapesAndConvertsEachMotor :
    nextHas (exec .apply { s16 with seq := .atApply, motor := ⟨4#16, 5#16, 99#16, 100#16⟩ })
      (fun t => t.dcmd == ⟨0, 13, 252, 255⟩) = true ∧ s16.seq ≠ .atApply := by decide

/-- The ends of the range and a step inside it. -/
theorem witness_DutyIsTheHalfUpRounding :
    duty cfg32 0 = 0 ∧ duty cfg32 5 = 51 ∧ duty cfg32 50 = 512 ∧ duty cfg32 100 = 1023 := by decide

theorem witness_DutyCommandsAvoidTheDeadZone :
    let s := { s16 with seq := .atApply, motor := ⟨4#16, 5#16, 99#16, 100#16⟩ }
    exec .apply s = .next (after (exec .apply s)) := rfl

/-- The four bits; enabled with an empty mask, enabled as the last write, and disabled in both ways. -/
theorem witness_DwriteWritesOneRegisterOncePerCycle :
    ([(Motor.m0, 0b0001#4), (.m1, 0b0010#4), (.m2, 0b0100#4), (.m3, 0b1000#4)].all fun (m, bit) =>
      runs (exec (.dwrite m) { s16 with seq := .atWrite }) &&
      nextHas (exec (.dwrite m) { s16 with seq := .atWrite, wmask := ~~~bit }) (fun t => t.seq == .atEmit) &&
      refusedBy (exec (.dwrite m) { s16 with seq := .atWrite, wmask := bit }) (.disabled (.dwrite m)) &&
      refusedBy (exec (.dwrite m) s16) (.disabled (.dwrite m))) = true := by decide

theorem witness_DutyReachesTheOutputAtTheNextBoundary :
    let s := { s16 with seq := .atWrite, dcmd := ⟨179, 77, 0, 102⟩ }
    let t := after (exec (.dwrite .m1) s)
    let between := [Instr.tick, .dwrite .m0]
    exec (.dwrite .m1) s = .next t ∧ Instr.pwmb ∉ between ∧ Instr.dwrite .m1 ∉ between ∧
    perform between t = .next (after (perform between t)) := ⟨rfl, by decide, by decide, rfl⟩

theorem witness_EmitAppendsTheWholeLine : atLine.seq = .atEmit ∧ s16.seq ≠ .atEmit ∧
    ({ atLine with cfg := { Config.reference with newline := .crlf } } : State).cfg.newline ≠ .lf := by decide

theorem witness_NumbersArePlainDecimal :
    sdec (-1) = [0x2D#8, 0x31#8] ∧ sdec 0 = [0x30#8] ∧ dec 10 = [0x31#8, 0x30#8] := by decide

theorem witness_TelemetryLineLength :
    WidthsOk atLine ∧ (∀ c, (atLine.pct.get c).toInt = percent (atLine.stabW.get c)) ∧ atLine.cfg.newline = .lf ∧
    atLine.cfg.tickW = 16 ∧ (4095 : Nat) < 2 ^ 12 ∧
    exec .emit atLine = .next (after (exec .emit atLine)) :=
  ⟨⟨by decide, by decide, by intro c; cases c <;> decide, by intro c; cases c <;> decide,
    by intro c; cases c <;> decide, by intro m; cases m <;> decide, by intro m; cases m <;> decide,
    by intro m; cases m <;> decide⟩, by intro c; cases c <;> decide, rfl, rfl, by decide, rfl⟩

theorem witness_TelemetryLineLength_32 :
    let s := { atLine with cfg := cfg32 }
    WidthsOk s ∧ PercentsOk s ∧ s.cfg.newline = .lf ∧ s.cfg.tickW = 32 ∧
    exec .emit s = .next (after (exec .emit s)) :=
  ⟨⟨by decide, by decide, by intro c; cases c <;> decide, by intro c; cases c <;> decide,
    by intro c; cases c <;> decide, by intro m; cases m <;> decide, by intro m; cases m <;> decide,
    by intro m; cases m <;> decide⟩, by intro c; cases c <;> decide, rfl, rfl, rfl⟩

/-- Each sequencer state with its operation, and an operation of each other agent. -/
theorem witness_SequencerFollowsItsTable :
    ([(SeqState.atOpen, Instr.wopen), (.atWait, .wclose), (.atConvert, .conv), (.atZero, .mzero), (.atMix, .mix),
      (.atApply, .apply), (.atWrite, .dwrite .m0), (.atWrite, .dwrite .m3), (.atEmit, .emit)].all fun (q, i) =>
        decide (i.agent = .seq) && runs (exec i { s16 with seq := q })) = true ∧
    runs (exec (.dwrite .m3) { s16 with seq := .atWrite, wmask := 0b0111#4 }) = true ∧
    Instr.tick.agent ≠ .seq ∧ (Instr.svc .pitch).agent ≠ .seq := by decide

theorem witness_SequencerNeverStops :
    WriteOk { s16 with seq := .atWrite, wmask := 0b0111#4 } ∧ atLine.seq = .atEmit := by decide

theorem witness_OneCycleIsElevenSequencerSteps :
    let ops := [Instr.wopen, .tick, .wclose, .conv, .pwmb, .mzero, .mix, .apply, .dwrite .m2, .dwrite .m0, .tick,
      .dwrite .m3, .dwrite .m1]
    s16.seq = .atOpen ∧ Instr.emit ∉ ops ∧ perform (ops ++ [.emit]) s16 = .next (after (perform (ops ++ [.emit]) s16)) ∧
    [Motor.m2, .m0, .m3, .m1].Perm [.m0, .m1, .m2, .m3] := ⟨rfl, by decide, rfl, by decide⟩

/-- With a service and a frame change between the sequencer's steps, once live and once in failsafe. -/
theorem witness_CycleComputesItsFunction (live : Bool) :
    let s := { rollFalling with seq := .atWait, live := live, rawW := ⟨1800, 1200⟩ }
    let before := [Instr.svc .roll, .conv, .frame .high, .mzero]
    let after' := [Instr.tick, .apply, .frame .low, .dwrite .m2, .dwrite .m0, .dwrite .m3, .pwmb, .dwrite .m1, .emit]
    let u := after (perform (.wclose :: before) s)
    s.seq = .atWait ∧ seqSteps before = [.conv, .mzero] ∧ perform (.wclose :: before) s = .next u ∧
    seqSteps after' = .apply :: ([Motor.m2, .m0, .m3, .m1].map Instr.dwrite ++ [.emit]) ∧
    perform (.mix :: after') u = .next (after (perform (.mix :: after') u)) := by
  cases live <;> exact ⟨rfl, rfl, rfl, rfl, rfl⟩

theorem witness_CyclesAreStatelessInTheirOwnRegisters :
    inWait.seq = .atWait ∧ [Motor.m3, .m1, .m0, .m2].Perm [.m0, .m1, .m2, .m3] := ⟨rfl, by decide⟩

/-- A run over and over: one pulse on the pitch line with its two services, then the eleven operations of a cycle. -/
def roundOps (n : Nat) : Instr :=
  match n % 15 with
  | 0 => .edge .pitch .rise
  | 1 => .svc .pitch
  | 2 => .edge .pitch .fall
  | 3 => .svc .pitch
  | 4 => .wopen
  | 5 => .wclose
  | 6 => .conv
  | 7 => .mzero
  | 8 => .mix
  | 9 => .apply
  | 10 => .dwrite .m0
  | 11 => .dwrite .m1
  | 12 => .dwrite .m2
  | 13 => .dwrite .m3
  | _ => .emit

/-- Its states. -/
def roundStates : Nat → State
  | 0 => s16
  | n + 1 => after (exec (roundOps n) (roundStates n))

/-- What selects the next operation of the run: the pitch pin, the pitch phase, the pending conditions, the sequencer
state and the mask. -/
def roundView (s : State) : Level × EdgePhase × PerChannel Bool × SeqState × BitVec 4 :=
  (s.rcLvl.pitch, s.phase.pitch, s.pend, s.seq, if s.seq = .atWrite then s.wmask else 0#4)

/-- The view after `n` operations of the run. -/
def roundAt (n : Nat) : Level × EdgePhase × PerChannel Bool × SeqState × BitVec 4 :=
  match n % 15 with
  | 0 => (.low, .awaitingRising, ⟨false, false⟩, .atOpen, 0#4)
  | 1 => (.high, .awaitingRising, ⟨true, false⟩, .atOpen, 0#4)
  | 2 => (.high, .awaitingFalling, ⟨false, false⟩, .atOpen, 0#4)
  | 3 => (.low, .awaitingFalling, ⟨true, false⟩, .atOpen, 0#4)
  | 4 => (.low, .awaitingRising, ⟨false, false⟩, .atOpen, 0#4)
  | 5 => (.low, .awaitingRising, ⟨false, false⟩, .atWait, 0#4)
  | 6 => (.low, .awaitingRising, ⟨false, false⟩, .atConvert, 0#4)
  | 7 => (.low, .awaitingRising, ⟨false, false⟩, .atZero, 0#4)
  | 8 => (.low, .awaitingRising, ⟨false, false⟩, .atMix, 0#4)
  | 9 => (.low, .awaitingRising, ⟨false, false⟩, .atApply, 0#4)
  | 10 => (.low, .awaitingRising, ⟨false, false⟩, .atWrite, 0b0000#4)
  | 11 => (.low, .awaitingRising, ⟨false, false⟩, .atWrite, 0b0001#4)
  | 12 => (.low, .awaitingRising, ⟨false, false⟩, .atWrite, 0b0011#4)
  | 13 => (.low, .awaitingRising, ⟨false, false⟩, .atWrite, 0b0111#4)
  | _ => (.low, .awaitingRising, ⟨false, false⟩, .atEmit, 0#4)

theorem roundAt_move (n : Nat) (s : State) (h : roundView s = roundAt n) :
    ∃ t, exec (roundOps n) s = .next t ∧ roundView t = roundAt (n + 1) := by
  have hn : n % 15 < 15 := Nat.mod_lt _ (by decide)
  obtain ⟨tick, ⟨l, l'⟩, ⟨p, p'⟩, st, raw, live, pend, stab, pct, mot, dcmd, q, w, fp, dr, da, tlm, cfg, tr⟩ := s
  unfold roundAt roundOps roundView at *
  rw [Nat.add_mod]
  generalize n % 15 = k at *
  have : k = 0 ∨ k = 1 ∨ k = 2 ∨ k = 3 ∨ k = 4 ∨ k = 5 ∨ k = 6 ∨ k = 7 ∨ k = 8 ∨ k = 9 ∨ k = 10 ∨ k = 11 ∨ k = 12 ∨
    k = 13 ∨ k = 14 := by omega
  rcases this with rfl | rfl | rfl | rfl | rfl | rfl | rfl | rfl | rfl | rfl | rfl | rfl | rfl | rfl | rfl <;>
    (simp only [Prod.mk.injEq] at h
     obtain ⟨rfl, rfl, rfl, rfl, hw⟩ := h
     first
       | exact ⟨_, rfl, rfl⟩
       | (change w = _ at hw; subst hw; exact ⟨_, execDwrite_next_iff.mpr ⟨⟨rfl, by dsimp only; decide⟩, rfl⟩, by simp; decide⟩))

theorem roundAt_states : ∀ n, roundView (roundStates n) = roundAt n
  | 0 => rfl
  | n + 1 => by
    obtain ⟨t, h, k⟩ := roundAt_move n _ (roundAt_states n)
    show roundView (after (exec (roundOps n) (roundStates n))) = roundAt (n + 1)
    rw [h]; exact k

theorem round_runs : InfiniteRun roundOps roundStates := fun n => by
  obtain ⟨t, h, _⟩ := roundAt_move n _ (roundAt_states n)
  show exec (roundOps n) (roundStates n) = .next (after (exec (roundOps n) (roundStates n)))
  rw [h]; rfl

/-- The run is weakly fair: WOPEN comes in every round, and at the start of every round no service is pending. -/
theorem round_fair : WeaklyFair roundOps roundStates := by
  refine ⟨fun n => ⟨15 * n + 4, by omega, Or.inl ?_⟩, fun c n => ⟨15 * n, by omega, Or.inr ?_⟩⟩
  · show (roundOps (15 * n + 4)).agent = .seq
    unfold roundOps
    rw [show (15 * n + 4) % 15 = 4 by omega]; rfl
  · rintro i rfl ⟨t, h⟩
    have v : (roundStates (15 * n)).pend = ⟨false, false⟩ := by
      have := congrArg (fun x => x.2.2.1) (roundAt_states (15 * n))
      unfold roundAt at this
      rwa [show 15 * n % 15 = 0 by omega] at this
    have := (execSvc_next_iff.mp h).1
    rw [v] at this
    cases c <;> cases this

theorem witness_FairRunsEmitForEver :
    WriteOk (roundStates 0) ∧ (roundStates 0).IsReset ∧ InfiniteRun roundOps roundStates ∧
    FairToSeq roundOps roundStates ∧ WeaklyFair roundOps roundStates :=
  ⟨by decide, by decide, round_runs, round_fair.1, round_fair⟩

theorem witness_FairRunsTakeEveryPendingService :
    InfiniteRun roundOps roundStates ∧ FairToService .pitch roundOps roundStates ∧
    (roundStates 1).pend.get .pitch = true := ⟨round_runs, round_fair.2 .pitch, rfl⟩

/-- Both ends of every reserved range. -/
theorem witness_ReservedWordsAreRefused :
    ([0x00, 0x0F, 0x11, 0x1F, 0x24, 0x2F, 0x32, 0x3F, 0x42, 0x4F, 0x53, 0x5F, 0x62, 0x6F, 0x71, 0x7F, 0x84, 0x8F, 0x91,
      0x9F, 0xA1, 0xFF].all fun k => decide (decodeWord (BitVec.ofNat 8 k) = none)) = true ∧
    ({ s16 with trace := [0xFF#8, 0x10#8] } : State).trace = 0xFF#8 :: [0x10#8] ∧
    0x53#8 ∈ ({ s16 with trace := [0x10#8, 0x53#8, 0x10#8] } : State).trace := by decide

theorem witness_EncodeInvertsDecode : decode [0x82#8, 0x10#8] = .legal (.dwrite .m2) [0x10#8] := by decide

theorem witness_StepRunsTheDecodedOperation :
    decode ({ s16 with trace := [0x50#8, 0x51#8] } : State).trace = .legal .wopen [0x51#8] ∧ s16.trace = [] := by decide

theorem witness_PulseMeasuresItsTicks :
    s16.tick < 2 ^ s16.cfg.tickW ∧ s16.rcLvl.get .roll = .low ∧ s16.phase.get .roll = .awaitingRising ∧
    s16.pend.get .roll = false := by decide

/-- Each element changes in an operation that may write it. -/
theorem witness_OnlyItsWritersChangeAnElement :
    nextHas (exec .tick s16) (fun t => t.tick != s16.tick) = true ∧
    nextHas (exec (.edge .pitch .rise) s16) (fun t => t.rcLvl != s16.rcLvl && t.pend.get .pitch != s16.pend.get .pitch)
      = true ∧
    nextHas (exec (.svc .pitch) { rollFalling with tick := 9 }) (fun t => t.phase != rollFalling.phase &&
      t.startTs != rollFalling.startTs && t.live != rollFalling.live && t.pend.get .pitch != true) = true ∧
    nextHas (exec (.svc .roll) { rollFalling with tick := 9 }) (fun t => t.rawW != rollFalling.rawW) = true ∧
    nextHas (exec .wopen { s16 with live := true }) (fun t => t.live != true && t.seq != s16.seq) = true ∧
    nextHas (perform [.wclose, .conv, .mzero, .mix, .apply, .dwrite .m2, .pwmb] inWait) (fun t =>
      t.stabW != inWait.stabW && t.pct != inWait.pct && t.motor != inWait.motor && t.dcmd != inWait.dcmd &&
        t.wmask != inWait.wmask && t.dutyReg.m2 != inWait.dutyReg.m2 && t.dutyAct != inWait.dutyAct) = true ∧
    nextHas (exec (.frame .high) s16) (fun t => t.framePin != s16.framePin) = true ∧
    nextHas (exec .emit atLine) (fun t => t.tlm != atLine.tlm) = true := by decide

theorem witness_TelemetryIsAppendOnly :
    exec .emit atLine = .next (after (exec .emit atLine)) ∧ exec .tick atLine = .next (after (exec .tick atLine)) ∧
    Instr.tick ≠ .emit := ⟨rfl, rfl, by decide⟩

theorem witness_SequencerReadsNoCaptureInternals :
    Instr.wclose.agent = .seq ∧ exec .wclose inWait = .next (after (exec .wclose inWait)) ∧
    exec .conv inWait = .refused (.disabled .conv) := ⟨rfl, rfl, rfl⟩

theorem witness_ServiceCommutesWithTheCooperativeContext :
    let s := { rollFalling with seq := .atConvert }
    Instr.conv.agent = .seq ∧ Instr.conv ≠ .wopen ∧ Instr.conv ≠ .wclose ∧ s.pend.get .roll = true ∧ Enabled .conv s :=
  ⟨rfl, by decide, by decide, rfl, ⟨_, rfl⟩⟩

/-- In WRITE with three registers written, and the write of the last one scheduled. -/
def lastWrite : State :=
  { after (perform [.wclose, .conv, .mzero, .mix, .apply, .dwrite .m3, .dwrite .m1, .dwrite .m0] inWait) with
    trace := [0x82#8] }

/-- For StepKeepsEveryWidth, StepKeepsDutiesInScale, StepKeepsTheWriteMaskSound and StepKeepsTheCycleResults: a state
that meets all four invariants, and a step from it. -/
theorem witness_StepKeeps :
    step lastWrite = .next (after (step lastWrite)) ∧
    (WidthsOk lastWrite ∧ DutiesOk lastWrite ∧ WriteOk lastWrite ∧ CycleOk lastWrite) ∧
    (after (step lastWrite)).seq = .atEmit := by
  refine ⟨rfl, ⟨⟨by decide, by decide, ?_, ?_, ?_, ?_, ?_, ?_⟩, ⟨?_, ?_, fun _ => ?_⟩, by decide,
    ?_, ⟨.low, ?_⟩, ?_, by decide, ?_⟩, rfl⟩ <;> intro x <;> cases x <;> decide

/-- For ResetMeetsTheInvariants, ResetTableHolds, FirstOperationAfterReset and PulseInProgressAtResetIsNotMeasured: a
reset state with a pin high and unspecified elements that are not 0. -/
theorem witness_reset_states :
    let cfg := { cfg32 with rcLvlInit := ⟨.high, .low⟩ }
    let s : State := { State.resetWith cfg with startTs := ⟨7, 4294967295⟩, stabW := ⟨1, 2⟩, pct := ⟨77#8, 0x80#8⟩,
                                                motor := ⟨1#16, 2#16, 3#16, 0x8000#16⟩, dcmd := ⟨1, 2, 3, 1023⟩ }
    cfg.wf = true ∧ s.IsReset ∧ s.rcLvl.get .pitch = .high ∧ s.rcLvl.get .roll = .low := by decide

theorem witness_RangesHoldAfterTheFirstWrite :
    s16.IsReset ∧
    perform [.wopen, .wclose, .conv, .mzero] s16 = .next (after (perform [.wopen, .wclose, .conv, .mzero] s16)) ∧
    (after (perform [.wopen, .wclose, .conv, .mzero] s16)).seq = .atMix ∧
    perform [.wopen, .wclose, .conv, .mzero, .mix, .apply] s16 =
      .next (after (perform [.wopen, .wclose, .conv, .mzero, .mix, .apply] s16)) := ⟨by decide, rfl, rfl, rfl⟩

end Sys2Proof.Tests
end

section
/-! ## The telemetry output (R32) -/

namespace Sys2Proof.Machine

/-- The capture handler writes nothing to the telemetry output, whichever edge it serves. -/
@[simp] theorem captureBody_tlm (c : Channel) (s : State) : (captureBody c s).tlm = s.tlm := by
  cases h : s.phase.get c with
  | awaitingRising => simp [captureBody_rising h]
  | awaitingFalling => simp [captureBody_falling h]

theorem exec_tlm_of_ne_emit {i : Instr} {s t : State} (h : exec i s = .next t) (hi : i ≠ .emit) :
    t.tlm = s.tlm := by
  cases i with
  | tick => simp [execTick_next_iff.mp h]
  | edge c pol => simp [execEdge_next_iff.mp h]
  | svc c => simp [execSvc_next_iff.mp h]
  | frame lvl => simp [execFrame_next_iff.mp h]
  | wopen => simp [execWopen_next_iff.mp h]
  | wclose => simp [execWclose_next_iff.mp h]
  | conv => simp [execConv_next_iff.mp h]
  | mzero => simp [execMzero_next_iff.mp h]
  | mix => simp [execMix_next_iff.mp h]
  | apply => simp [execApply_next_iff.mp h]
  | dwrite m => simp [execDwrite_next_iff.mp h]
  | pwmb => simp [execPwmb_next_iff.mp h]
  | emit => exact absurd rfl hi

theorem execEmit_tlm {s t : State} (h : exec .emit s = .next t) :
    t.tlm = s.tlm ++ tlmLine s.cfg s.stabW s.pct := by
  obtain ⟨-, rfl⟩ := execEmit_next_iff.mp h
  simp

theorem State.IsReset.tlm_eq_nil {s : State} (h : s.IsReset) : s.tlm = [] := by
  obtain ⟨-, -, -, -, -, -, -, -, -, -, -, -, htlm, -⟩ := h
  exact htlm

/-- Settles O45: EMIT appends its line, every other operation appends nothing, and the reset table leaves `TLM`
empty. -/
theorem telemetryIsAppendOnly : Obligations.TelemetryIsAppendOnly := by
  refine ⟨fun i s t h => ?_, fun s hs => hs.tlm_eq_nil⟩
  by_cases hi : i = .emit
  · subst hi
    exact ⟨tlmLine s.cfg s.stabW s.pct, execEmit_tlm h, fun hne => absurd rfl hne⟩
  · exact ⟨[], by simpa using exec_tlm_of_ne_emit h hi, fun _ => rfl⟩

end Sys2Proof.Machine
end

section
/-! ## The reserved words (R80)

A row of the opcode map tests the bits above its operand field, so it covers the words of one aligned block of values.
The reserved ranges and their number follow from the blocks of the 13 rows. -/

namespace Sys2Proof

/-- A mask of all bits but the lowest `k` rounds a word down to a multiple of `2 ^ k`. -/
theorem toNat_and_allOnes_shiftLeft (w : Byte) (k : Nat) :
    (w &&& BitVec.allOnes 8 <<< k).toNat = w.toNat / 2 ^ k * 2 ^ k := by
  have clears : w &&& BitVec.allOnes 8 <<< k = w >>> k <<< k := by
    ext j hj
    by_cases hk : j < k
    · simp [hk]
    · have hback : k + (j - k) = j := by omega
      simp only [BitVec.getElem_and, BitVec.getElem_shiftLeft, BitVec.getElem_allOnes, BitVec.getElem_ushiftRight]
      simp [hk, hback, hj]
  have fits : w.toNat / 2 ^ k * 2 ^ k < 2 ^ 8 := (Nat.div_mul_le_self _ _).trans_lt w.isLt
  rw [clears, BitVec.toNat_shiftLeft, BitVec.toNat_ushiftRight, Nat.shiftRight_eq_div_pow, Nat.shiftLeft_eq,
    Nat.mod_eq_of_lt fits]

/-- A row with an operand field of `k` bits covers the words that clearing the field turns into its pattern
(R68). -/
theorem OpcodeRow.covers_iff {mask : Byte} {k : Nat} (hmask : mask = BitVec.allOnes 8 <<< k) {mnemonic : String}
    {pattern : Byte} {build : Byte → Instr} (w : Byte) :
    (OpcodeRow.mk mnemonic pattern mask build).covers w = true ↔ w.toNat / 2 ^ k * 2 ^ k = pattern.toNat := by
  rw [OpcodeRow.covers, beq_iff_eq, ← BitVec.toNat_inj, hmask, toNat_and_allOnes_shiftLeft]

theorem decodeWord_eq_none_iff_forall_row (w : Byte) :
    decodeWord w = none ↔ ∀ r ∈ opcodeMap, ¬ r.covers w = true := by
  simp [decodeWord]

/-- A reserved word lies in the block of no row; one inequality for each row, in the order of R68. -/
theorem decodeWord_eq_none_iff (w : Byte) : decodeWord w = none ↔
    w.toNat ≠ 0x10 ∧ w.toNat / 4 * 4 ≠ 0x20 ∧ w.toNat / 2 * 2 ≠ 0x30 ∧ w.toNat / 2 * 2 ≠ 0x40 ∧
    w.toNat ≠ 0x50 ∧ w.toNat ≠ 0x51 ∧ w.toNat ≠ 0x52 ∧ w.toNat ≠ 0x60 ∧ w.toNat ≠ 0x61 ∧
    w.toNat ≠ 0x70 ∧ w.toNat / 4 * 4 ≠ 0x80 ∧ w.toNat ≠ 0x90 ∧ w.toNat ≠ 0xA0 := by
  have noField : 0xFF#8 = BitVec.allOnes 8 <<< 0 := by decide
  have oneBit : 0xFE#8 = BitVec.allOnes 8 <<< 1 := by decide
  have twoBits : 0xFC#8 = BitVec.allOnes 8 <<< 2 := by decide
  rw [decodeWord_eq_none_iff_forall_row]
  simp [opcodeMap, OpcodeRow.covers_iff noField, OpcodeRow.covers_iff oneBit, OpcodeRow.covers_iff twoBits,
    -Bool.not_eq_true]

/-- The ranges of R80, of a word's value. -/
def ReservedValue (k : Nat) : Prop :=
  k ≤ 0x0F ∨ (0x11 ≤ k ∧ k ≤ 0x1F) ∨ (0x24 ≤ k ∧ k ≤ 0x2F) ∨ (0x32 ≤ k ∧ k ≤ 0x3F) ∨ (0x42 ≤ k ∧ k ≤ 0x4F) ∨
  (0x53 ≤ k ∧ k ≤ 0x5F) ∨ (0x62 ≤ k ∧ k ≤ 0x6F) ∨ (0x71 ≤ k ∧ k ≤ 0x7F) ∨ (0x84 ≤ k ∧ k ≤ 0x8F) ∨
  (0x91 ≤ k ∧ k ≤ 0x9F) ∨ 0xA1 ≤ k

theorem decodeWord_eq_none_iff_reservedValue (w : Byte) : decodeWord w = none ↔ ReservedValue w.toNat := by
  rw [decodeWord_eq_none_iff, ReservedValue]
  omega

/-- The values of the words R68 gives an operation, row by row. -/
def legalValues : Finset Nat :=
  {0x10, 0x20, 0x21, 0x22, 0x23, 0x30, 0x31, 0x40, 0x41, 0x50, 0x51, 0x52, 0x60, 0x61, 0x70,
   0x80, 0x81, 0x82, 0x83, 0x90, 0xA0}

theorem decodeWord_eq_none_iff_notMem_legalValues (w : Byte) :
    decodeWord w = none ↔ w.toNat ∉ legalValues := by
  simp only [decodeWord_eq_none_iff, legalValues, Finset.mem_insert, Finset.mem_singleton]
  omega

theorem card_legalValues : legalValues.card = 21 := by decide

/-- 256 words, less the 21 legal ones. -/
theorem length_filter_reserved :
    ((List.range 256).filter fun k => decide (decodeWord (BitVec.ofNat 8 k) = none)).length = 235 := by
  have complement : (Finset.range 256).filter (fun k => decodeWord (BitVec.ofNat 8 k) = none) =
      Finset.range 256 \ legalValues := by
    ext k
    simp only [Finset.mem_filter, Finset.mem_sdiff, decodeWord_eq_none_iff_notMem_legalValues]
    refine and_congr_right fun hk => ?_
    rw [BitVec.toNat_ofNat, Nat.mod_eq_of_lt (Finset.mem_range.mp hk)]
  have legal : legalValues ⊆ Finset.range 256 := by decide
  calc ((List.range 256).filter fun k => decide (decodeWord (BitVec.ofNat 8 k) = none)).length
      = ((Finset.range 256).filter fun k => decodeWord (BitVec.ofNat 8 k) = none).card := rfl
    _ = 256 - 21 := by rw [complement, Finset.card_sdiff_of_subset legal, Finset.card_range, card_legalValues]

/-! ### The decoder's verdict -/

theorem decode_cons_of_none {w : Byte} (h : decodeWord w = none) (rest : List Byte) :
    decode (w :: rest) = .invalid w := by
  simp [decode, h]

theorem decode_cons_eq_legal_iff {w : Byte} {rest tail : List Byte} {i : Instr} :
    decode (w :: rest) = .legal i tail ↔ decodeWord w = some i ∧ rest = tail := by
  cases h : decodeWord w <;> simp [decode, h]

namespace Machine

/-! ### Steps and runs over a reserved word -/

/-- Every operation is an attempt: it has a next state or is refused as disabled (R20, R146). -/
theorem exec_eq_attempt (i : Instr) (s : State) : ∃ enabled t, exec i s = attempt i enabled t := by
  cases i with
  | tick => exact ⟨true, s.setTick (tickSucc s.cfg s.tick), rfl⟩
  | frame lvl => exact ⟨true, s.setFramePin lvl, rfl⟩
  | pwmb => exact ⟨true, s.setDutyAct s.dutyReg, rfl⟩
  | _ => exact ⟨_, _, rfl⟩

theorem exec_ne_fault (i : Instr) (s : State) (f : Fault) : exec i s ≠ .fault f := by
  obtain ⟨enabled, t, h⟩ := exec_eq_attempt i s
  rw [h]
  cases enabled <;> simp

theorem step_of_reserved {s : State} {w : Byte} {rest : List Byte} (ht : s.trace = w :: rest)
    (hw : decodeWord w = none) : step s = .refused (.reservedWord w) := by
  simp [step, State.fetch, ht, decode_cons_of_none hw]

theorem step_ne_fault (s : State) (f : Fault) : step s ≠ .fault f := by
  unfold step
  split
  · exact exec_ne_fault _ _ f
  · simp
  · simp

@[simp] theorem captureBody_trace (c : Channel) (s : State) : (captureBody c s).trace = s.trace := by
  cases h : s.phase.get c with
  | awaitingRising => simp [captureBody_rising h]
  | awaitingFalling => simp [captureBody_falling h]

/-- No operation touches the schedule: only the step's own fetch moves it. -/
theorem exec_trace {i : Instr} {s t : State} (h : exec i s = .next t) : t.trace = s.trace := by
  cases i with
  | tick => simp [execTick_next_iff.mp h]
  | edge c pol => simp [execEdge_next_iff.mp h]
  | svc c => simp [execSvc_next_iff.mp h]
  | frame lvl => simp [execFrame_next_iff.mp h]
  | wopen => simp [execWopen_next_iff.mp h]
  | wclose => simp [execWclose_next_iff.mp h]
  | conv => simp [execConv_next_iff.mp h]
  | mzero => simp [execMzero_next_iff.mp h]
  | mix => simp [execMix_next_iff.mp h]
  | apply => simp [execApply_next_iff.mp h]
  | dwrite m => simp [execDwrite_next_iff.mp h]
  | pwmb => simp [execPwmb_next_iff.mp h]
  | emit => simp [execEmit_next_iff.mp h]

/-- A step that answers a next state read one legal word and left the words after it. -/
theorem step_next_trace {s t : State} (h : step s = .next t) :
    ∃ w i, decodeWord w = some i ∧ s.trace = w :: t.trace := by
  obtain ⟨i, rest, hdec, hexec⟩ := step_next_cases h
  have htrace : t.trace = rest := by simpa using exec_trace hexec
  cases hs : s.trace with
  | nil => simp [hs, decode] at hdec
  | cons w tail =>
    rw [hs, decode_cons_eq_legal_iff] at hdec
    obtain ⟨hw, rfl⟩ := hdec
    exact ⟨w, i, hw, by rw [htrace]⟩

theorem run_succ_of_next {s t : State} (h : step s = .next t) (n : Nat) :
    Host.Core.run Sys2Proof.core (n + 1) s = Host.Core.run Sys2Proof.core n t := by
  have hcore : Sys2Proof.core.step s = .next t := h
  simp only [Host.Core.run, hcore]

theorem run_succ_of_refused {s : State} {r : Refusal} (h : step s = .refused r) (n : Nat) :
    Host.Core.run Sys2Proof.core (n + 1) s = .refused r := by
  have hcore : Sys2Proof.core.step s = .refused r := h
  simp only [Host.Core.run, hcore]

/-- A run of one step for each word of the schedule reaches the reserved word, unless a step before it is refused. -/
theorem run_refused_of_reserved_mem {s : State} {w : Byte} (hmem : w ∈ s.trace) (hw : decodeWord w = none) :
    ∃ r, Host.Core.run Sys2Proof.core s.trace.length s = .refused r := by
  induction hn : s.trace.length generalizing s with
  | zero => simp [List.length_eq_zero_iff.mp hn] at hmem
  | succ n ih =>
    cases hstep : step s with
    | next t =>
      obtain ⟨v, i, hv, htrace⟩ := step_next_trace hstep
      have hne : w ≠ v := by
        rintro rfl
        simp [hw] at hv
      have hrest : w ∈ t.trace := by simpa [htrace, hne] using hmem
      have hlen : t.trace.length = n := by simpa [htrace] using hn
      obtain ⟨r, hr⟩ := ih hrest hlen
      exact ⟨r, (run_succ_of_next hstep n).trans hr⟩
    | fault f => exact absurd hstep (step_ne_fault s f)
    | refused r => exact ⟨r, run_succ_of_refused hstep n⟩

/-- Settles O35, from the row blocks of R68 for the words and from the schedule's one word per step for the run. -/
theorem reservedWordsAreRefused : Obligations.ReservedWordsAreRefused :=
  ⟨decodeWord_eq_none_iff_reservedValue, length_filter_reserved, fun _ rest hw => decode_cons_of_none hw rest,
    fun _ _ _ ht hw => step_of_reserved ht hw, fun _ _ hmem hw => run_refused_of_reserved_mem hmem hw⟩

end Machine

end Sys2Proof
end

section
/-! ## Pulse capture (R87, R88, R89)

The words of TICK, EDGE and SVC, and each operation's whole next state from the fields of the state before it. -/

namespace Sys2Proof.Machine

/-! ### TICK -/

/-- Settles O1: the model's increment of an integer, narrowed to the counter's width, is the sum modulo 2 to the
width. -/
theorem tickIncrementsModuloItsWidth : Obligations.TickIncrementsModuloItsWidth := by
  refine ⟨rfl, rfl, fun s => execTick_next_iff.mpr ?_⟩
  rw [tickSucc_eq]
  rfl

/-! ### EDGE -/

theorem rise_eq_armedPolarity_iff {phase : EdgePhase} :
    Polarity.rise = armedPolarity phase ↔ phase = .awaitingRising := by
  cases phase <;> decide

theorem fall_eq_armedPolarity_iff {phase : EdgePhase} :
    Polarity.fall = armedPolarity phase ↔ phase = .awaitingFalling := by
  cases phase <;> decide

/-- A transition writes `PEND[c]` when it is of the armed polarity; any other leaves `PEND` as it was (R88, R149). -/
theorem set_pendAfterEdge (pend : PerChannel Bool) (c : Channel) (phase : EdgePhase) (pol : Polarity) :
    pend.set c (pendAfterEdge phase pol (pend.get c)) =
      if pol = armedPolarity phase then pend.set c true else pend := by
  by_cases harmed : pol = armedPolarity phase
  · simp [pendAfterEdge, recognized, harmed]
  · simp [pendAfterEdge, recognized, harmed]

theorem execEdge_of_levelBefore {c : Channel} {pol : Polarity} {s : State} (h : s.rcLvl.get c = levelBefore pol) :
    exec (.edge c pol) s = .next { s with
      rcLvl := s.rcLvl.set c (levelAfter pol)
      pend := if pol = armedPolarity (s.phase.get c) then s.pend.set c true else s.pend } := by
  refine execEdge_next_iff.mpr ⟨h, ?_⟩
  rw [← set_pendAfterEdge]
  rfl

theorem execEdge_refused_iff {c : Channel} {pol : Polarity} {s : State} {r : Refusal} :
    exec (.edge c pol) s = .refused r ↔ s.rcLvl.get c ≠ levelBefore pol ∧ r = .disabled (.edge c pol) := by
  simp [exec, execEdge, attempt_refused_iff]

/-- Settles O2: a pin is at the level exactly one of the two polarities starts from, and the polarity `PHASE[c]` arms
decides `PEND[c]`. -/
theorem edgeMovesThePinAndMarksArmedTransitions : Obligations.EdgeMovesThePinAndMarksArmedTransitions := by
  refine ⟨fun _ _ => rfl, rfl, rfl, rfl, rfl, fun c s => ⟨fun hlow => ⟨?_, ?_⟩, fun hhigh => ⟨?_, ?_⟩⟩⟩
  · have hrise := execEdge_of_levelBefore (pol := .rise) hlow
    simpa only [rise_eq_armedPolarity_iff, levelAfter] using hrise
  · exact execEdge_refused_iff.mpr ⟨by simp [hlow, levelBefore], rfl⟩
  · have hfall := execEdge_of_levelBefore (pol := .fall) hhigh
    simpa only [fall_eq_armedPolarity_iff, levelAfter] using hfall
  · exact execEdge_refused_iff.mpr ⟨by simp [hhigh, levelBefore], rfl⟩

/-! ### SVC -/

/-- The rising service stamps the tick and leaves `RAW_W` (R89). -/
theorem execSvc_rising {c : Channel} {s : State} (hpend : s.pend.get c = true)
    (hphase : s.phase.get c = .awaitingRising) :
    exec (.svc c) s = .next { s with
      startTs := s.startTs.set c s.tick
      phase := s.phase.set c .awaitingFalling
      live := true
      pend := s.pend.set c false } := by
  refine execSvc_next_iff.mpr ⟨hpend, ?_⟩
  rw [captureBody_rising hphase]
  rfl

/-- The falling service measures the width and leaves `START_TS` (R89). -/
theorem execSvc_falling {c : Channel} {s : State} (hpend : s.pend.get c = true)
    (hphase : s.phase.get c = .awaitingFalling) :
    exec (.svc c) s = .next { s with
      rawW := s.rawW.set c (pulseWidth s.cfg (s.startTs.get c) s.tick)
      phase := s.phase.set c .awaitingRising
      live := true
      pend := s.pend.set c false } := by
  refine execSvc_next_iff.mpr ⟨hpend, ?_⟩
  rw [captureBody_falling hphase]
  rfl

theorem execSvc_refused_iff {c : Channel} {s : State} {r : Refusal} :
    exec (.svc c) s = .refused r ↔ s.pend.get c = false ∧ r = .disabled (.svc c) := by
  simp [exec, execSvc, attempt_refused_iff]

/-- Settles O3: one case for each phase of a pending channel, and the refusal where nothing is pending. -/
theorem serviceStampsOrMeasuresAndClearsItsCondition :
    Obligations.ServiceStampsOrMeasuresAndClearsItsCondition :=
  ⟨fun _ => rfl, rfl, rfl, fun _ _ =>
    ⟨execSvc_rising, execSvc_falling, fun hidle => execSvc_refused_iff.mpr ⟨hidle, rfl⟩⟩⟩

end Sys2Proof.Machine
end

section
/-! ## Pulse sampler (R97 to R100)

WOPEN, WCLOSE and CONV: the whole next state from the fields of the state before it, and the refusal in every sequencer
state but the operation's own. -/

namespace Sys2Proof.Machine

/-! ### WOPEN -/

theorem execWopen_refused_iff {s : State} {r : Refusal} :
    exec .wopen s = .refused r ↔ s.seq ≠ .atOpen ∧ r = .disabled .wopen := by
  simp [exec, execWopen, attempt_refused_iff]

/-- Settles O7: WOPEN has its next state with `SEQ` at OPEN and is refused elsewhere. -/
theorem wopenClearsLiveAndStartsTheWindow : Obligations.WopenClearsLiveAndStartsTheWindow :=
  ⟨rfl, rfl, fun _ =>
    ⟨fun hopen => execWopen_next_iff.mpr ⟨hopen, rfl⟩, fun hne => execWopen_refused_iff.mpr ⟨hne, rfl⟩⟩⟩

/-! ### WCLOSE -/

/-- A window with a service takes both raw widths (R98). -/
theorem snapshot_live (raw : PerChannel Nat) : snapshot true raw = raw := rfl

/-- A window without a service takes the centre width for both channels (R98). -/
theorem snapshot_failsafe (raw : PerChannel Nat) : snapshot false raw = ⟨1500, 1500⟩ := rfl

theorem execWclose_of_atWait {s : State} (hwait : s.seq = .atWait) :
    exec .wclose s = .next { s with stabW := snapshot s.live s.rawW, seq := .atConvert } :=
  execWclose_next_iff.mpr ⟨hwait, rfl⟩

theorem execWclose_refused_iff {s : State} {r : Refusal} :
    exec .wclose s = .refused r ↔ s.seq ≠ .atWait ∧ r = .disabled .wclose := by
  simp [exec, execWclose, attempt_refused_iff]

/-- Settles O8: with `SEQ` at WAIT the value of `LIVE` chooses the snapshot, and WCLOSE is refused elsewhere. -/
theorem wcloseSnapshotsOrFailsSafe : Obligations.WcloseSnapshotsOrFailsSafe := by
  refine ⟨rfl, rfl, fun s => ⟨fun hwait hlive => ?_, fun hwait hlive => ?_, fun hne => ?_⟩⟩
  · rw [execWclose_of_atWait hwait, hlive, snapshot_live]
  · rw [execWclose_of_atWait hwait, hlive, snapshot_failsafe]
  · exact execWclose_refused_iff.mpr ⟨hne, rfl⟩

/-! ### CONV -/

/-- `percent` with the constants of R16 written out (R99). -/
theorem percent_eq (w : Nat) : percent w =
    if w ≤ 900 ∨ 2100 ≤ w then 0 else (min 2000 (max 1000 (w : Int)) - 1000 + 2) / 5 - 100 := rfl

/-- An invalid width gives 0, and the clamp bounds the percent of a valid one (R101). -/
theorem percent_bounds (w : Nat) : -100 ≤ percent w ∧ percent w ≤ 100 := by
  rw [percent_eq]
  split
  · decide
  · omega

/-- `PCT` holds every percent exactly (R38, R101). -/
@[simp] theorem storePct_percent_toInt (w : Nat) : (storePct (percent w)).toInt = percent w := by
  obtain ⟨hlo, hhi⟩ := percent_bounds w
  exact storePct_toInt (by omega) (by omega)

theorem execConv_of_atConvert {s : State} (hconv : s.seq = .atConvert) :
    exec .conv s = .next { s with pct := s.stabW.map fun w => storePct (percent w), seq := .atZero } :=
  execConv_next_iff.mpr ⟨hconv, rfl⟩

theorem execConv_refused_iff {s : State} {r : Refusal} :
    exec .conv s = .refused r ↔ s.seq ≠ .atConvert ∧ r = .disabled .conv := by
  simp [exec, execConv, attempt_refused_iff]

/-- Settles O9: CONV stores the percent of each channel's own width, and the 8-bit store is exact on a percent. -/
theorem convMapsEachWidthToItsPercent : Obligations.ConvMapsEachWidthToItsPercent := by
  refine ⟨rfl, rfl, fun s => ⟨fun hconv => ?_, fun hne => execConv_refused_iff.mpr ⟨hne, rfl⟩⟩⟩
  refine ⟨_, execConv_of_atConvert hconv, fun c => ?_⟩
  rw [PerChannel.get_map, storePct_percent_toInt, percent_eq]

end Sys2Proof.Machine
end

section
/-! ## Motor mixer (R109 to R113)

The words of FRAME, MZERO and MIX, each operation's whole next state, and the two frame tables as one row for each
motor, from any accumulator. -/

namespace Sys2Proof.Machine

/-! ### FRAME -/

/-- Settles O14: FRAME has no enabling condition, and its one write is the pin. -/
theorem frameDrivesThePin : Obligations.FrameDrivesThePin :=
  ⟨fun _ => rfl, rfl, rfl, fun _ _ => execFrame_next_iff.mpr rfl⟩

/-! ### MZERO -/

theorem execMzero_refused_iff {s : State} {r : Refusal} :
    exec .mzero s = .refused r ↔ s.seq ≠ .atZero ∧ r = .disabled .mzero := by
  simp [exec, execMzero, attempt_refused_iff]

/-- Settles O15: MZERO has its next state with `SEQ` at ZERO and is refused elsewhere. -/
theorem mzeroClearsAllMotors : Obligations.MzeroClearsAllMotors :=
  ⟨rfl, rfl, fun _ =>
    ⟨fun hzero => execMzero_next_iff.mpr ⟨hzero, rfl⟩, fun hne => execMzero_refused_iff.mpr ⟨hne, rfl⟩⟩⟩

/-! ### The Plus table (R112) -/

theorem plusPitch_eq (acc : PerMotor Int) (p : Int) : plusPitch acc p =
    { acc with m0 := if 0 ≤ p then acc.m0 else -p, m2 := if 0 ≤ p then p else acc.m2 } := by
  by_cases hp : 0 ≤ p <;> simp [plusPitch, PerMotor.set, hp]

theorem plusRoll_eq (acc : PerMotor Int) (r : Int) : plusRoll acc r =
    { acc with m1 := if 0 ≤ r then acc.m1 else -r, m3 := if 0 ≤ r then r else acc.m3 } := by
  by_cases hr : 0 ≤ r <;> simp [plusRoll, PerMotor.set, hr]

/-- Pitch writes motors 0 and 2, roll writes motors 1 and 3, so no row of one axis meets a row of the other. -/
theorem plusMix_eq (acc : PerMotor Int) (p r : Int) : plusMix acc p r =
    ⟨if 0 ≤ p then acc.m0 else -p, if 0 ≤ r then acc.m1 else -r,
      if 0 ≤ p then p else acc.m2, if 0 ≤ r then r else acc.m3⟩ := by
  rw [plusMix, plusPitch_eq, plusRoll_eq]

/-! ### The X table (R113) -/

theorem xPitch_eq (acc : PerMotor Int) (p : Int) : xPitch acc p =
    ⟨acc.m0 + (if 0 ≤ p then 0 else -p), acc.m1 + (if 0 ≤ p then 0 else -p),
      acc.m2 + (if 0 ≤ p then p else 0), acc.m3 + (if 0 ≤ p then p else 0)⟩ := by
  by_cases hp : 0 ≤ p <;> simp [xPitch, PerMotor.set, hp]

theorem xRoll_eq (acc : PerMotor Int) (r : Int) : xRoll acc r =
    ⟨acc.m0 + (if 0 ≤ r then r else 0), acc.m1 + (if 0 ≤ r then 0 else -r),
      acc.m2 + (if 0 ≤ r then 0 else -r), acc.m3 + (if 0 ≤ r then r else 0)⟩ := by
  by_cases hr : 0 ≤ r <;> simp [xRoll, PerMotor.set, hr]

/-- Each motor gets one contribution of each axis. -/
theorem xMix_eq (acc : PerMotor Int) (p r : Int) : xMix acc p r =
    ⟨acc.m0 + (if 0 ≤ p then 0 else -p) + (if 0 ≤ r then r else 0),
      acc.m1 + (if 0 ≤ p then 0 else -p) + (if 0 ≤ r then 0 else -r),
      acc.m2 + (if 0 ≤ p then p else 0) + (if 0 ≤ r then 0 else -r),
      acc.m3 + (if 0 ≤ p then p else 0) + (if 0 ≤ r then r else 0)⟩ := by
  rw [xMix, xPitch_eq, xRoll_eq]

/-! ### The 16-bit store of a motor percent (R40) -/

theorem storeMotor_eq_ofInt {v : Int} (lo : -32768 ≤ v) (hi : v ≤ 32767) : storeMotor v = BitVec.ofInt 16 v :=
  if_pos ⟨lo, hi⟩

/-- A motor that the mix does not write keeps its bits. -/
@[simp] theorem storeMotor_toInt_self (v : BitVec 16) : storeMotor v.toInt = v := by
  have lo : -32768 ≤ v.toInt := BitVec.le_toInt v
  have hi : v.toInt < 32768 := BitVec.toInt_lt
  rw [storeMotor_eq_ofInt lo (by omega), BitVec.ofInt_toInt]

/-- The store never meets the free value on a percent register or its negation. -/
theorem storeMotor_percent (v : BitVec 8) :
    storeMotor v.toInt = BitVec.ofInt 16 v.toInt ∧ storeMotor (-v.toInt) = BitVec.ofInt 16 (-v.toInt) := by
  have lo : -128 ≤ v.toInt := BitVec.le_toInt v
  have hi : v.toInt < 128 := BitVec.toInt_lt
  exact ⟨storeMotor_eq_ofInt (by omega) (by omega), storeMotor_eq_ofInt (by omega) (by omega)⟩

/-! ### MIX -/

/-- The Plus frame overwrites with percents, which 16 bits hold, so its store is exact from any `MOTOR`. -/
theorem mixedMotors_plus {s : State} (hpin : s.framePin = .high) : mixedMotors s =
    ⟨if 0 ≤ s.pct.pitch.toInt then s.motor.m0 else BitVec.ofInt 16 (-s.pct.pitch.toInt),
      if 0 ≤ s.pct.roll.toInt then s.motor.m1 else BitVec.ofInt 16 (-s.pct.roll.toInt),
      if 0 ≤ s.pct.pitch.toInt then BitVec.ofInt 16 s.pct.pitch.toInt else s.motor.m2,
      if 0 ≤ s.pct.roll.toInt then BitVec.ofInt 16 s.pct.roll.toInt else s.motor.m3⟩ := by
  obtain ⟨hp, hnp⟩ := storeMotor_percent s.pct.pitch
  obtain ⟨hr, hnr⟩ := storeMotor_percent s.pct.roll
  rw [mixedMotors, hpin, mixFrame, plusMix_eq]
  simp only [PerMotor.map, apply_ite storeMotor, storeMotor_toInt_self, hp, hnp, hr, hnr]

/-- The X frame stores the exact sum wherever 16 bits hold it. -/
theorem mixedMotors_x_get_toInt {s : State} (hpin : s.framePin = .low) {m : Motor} {e : Int}
    (he : (xMix (s.motor.map fun v => v.toInt) s.pct.pitch.toInt s.pct.roll.toInt).get m = e)
    (lo : -32768 ≤ e) (hi : e ≤ 32767) : ((mixedMotors s).get m).toInt = e := by
  rw [mixedMotors, hpin, mixFrame, PerMotor.get_map, he, storeMotor_toInt lo hi]

theorem execMix_of_atMix {s : State} (hmix : s.seq = .atMix) :
    exec .mix s = .next { s with motor := mixedMotors s, seq := .atApply } :=
  execMix_next_iff.mpr ⟨hmix, rfl⟩

theorem execMix_refused_iff {s : State} {r : Refusal} :
    exec .mix s = .refused r ↔ s.seq ≠ .atMix ∧ r = .disabled .mix := by
  simp [exec, execMix, attempt_refused_iff]

/-- Settles O16: with `SEQ` at MIX the pin chooses the table, whose rows are `plusMix_eq` and `xMix_eq`, and MIX is
refused elsewhere. -/
theorem mixAppliesTheFrameTables : Obligations.MixAppliesTheFrameTables := by
  refine ⟨rfl, rfl, ?_⟩
  rintro s p r rfl rfl
  refine ⟨fun hmix hplus => ?_, fun hmix hx => ?_, fun hne => execMix_refused_iff.mpr ⟨hne, rfl⟩⟩
  · rw [execMix_of_atMix hmix, mixedMotors_plus hplus]
  · refine ⟨_, execMix_of_atMix hmix, fun m e he => mixedMotors_x_get_toInt hx ?_⟩
    rw [xMix_eq, he]
    cases m <;> rfl

end Sys2Proof.Machine
end

section
/-! ## Duty applier (R121 to R126)

The dead-zone and the rounding as arithmetic, the write mask as the bit patterns the statements write out, and each
operation's whole next state. -/

namespace Sys2Proof.Machine

/-! ### The dead-zone (R125) -/

/-- `shape` with the constants of R16 written out. -/
theorem shape_eq (x : Int) :
    shape x = if min 100 (max 0 x) < 5 then 0 else min 100 (max 0 x) := rfl

theorem shape_of_le_four {x : Int} (h : x ≤ 4) : shape x = 0 := by
  rw [shape_eq, if_pos (by omega)]

/-- Neither the clamp nor the dead-zone changes a percent between them. -/
theorem shape_of_five_le_of_le_hundred {x : Int} (lo : 5 ≤ x) (hi : x ≤ 100) : shape x = x := by
  rw [shape_eq, if_neg (by omega)]
  omega

theorem shape_of_hundred_le {x : Int} (h : 100 ≤ x) : shape x = 100 := by
  rw [shape_eq, if_neg (by omega)]
  omega

/-! ### The rounding (R126) -/

/-- On a percent that is not negative, no part of the quotient is lost to the natural numbers. -/
theorem duty_cast (cfg : Config) {v : Int} (hv : 0 ≤ v) : (duty cfg v : Int) = (v * cfg.dutyFull + 50) / 100 := by
  have hprod : 0 ≤ v * (cfg.dutyFull : Int) := by positivity
  rw [duty]
  omega

theorem duty_zero (cfg : Config) : duty cfg 0 = 0 := by
  simp [duty]

theorem duty_hundred (cfg : Config) : duty cfg 100 = cfg.dutyFull := by
  rw [duty]
  omega

/-- The addend 50 makes the floor of the quotient the half-up rounding. -/
theorem duty_rounds (cfg : Config) {v : Int} (hv : 0 ≤ v) :
    100 * (duty cfg v : Int) ≤ v * cfg.dutyFull + 50 ∧ v * cfg.dutyFull + 50 < 100 * ((duty cfg v : Int) + 1) := by
  rw [duty_cast cfg hv]
  omega

theorem duty_mono (cfg : Config) : Monotone (duty cfg) := by
  intro v v' hle
  have hprod : v * (cfg.dutyFull : Int) ≤ v' * cfg.dutyFull := by gcongr
  rw [duty, duty]
  omega

/-- Settles O20: the two bounds of the floor, the values at the ends, and the product's growth with the percent. -/
theorem dutyIsTheHalfUpRounding : Obligations.DutyIsTheHalfUpRounding := fun cfg =>
  ⟨fun _ hv _ => duty_rounds cfg hv, duty_zero cfg, duty_hundred cfg, fun _ _ _ hle _ => duty_mono cfg hle⟩

/-! ### APPLY -/

theorem execApply_of_atApply {s : State} (happly : s.seq = .atApply) :
    exec .apply s = .next { s with
      dcmd := s.motor.map fun v => duty s.cfg (shape v.toInt), wmask := 0b0000#4, seq := .atWrite } :=
  execApply_next_iff.mpr ⟨happly, rfl⟩

theorem execApply_refused_iff {s : State} {r : Refusal} :
    exec .apply s = .refused r ↔ s.seq ≠ .atApply ∧ r = .disabled .apply := by
  simp [exec, execApply, attempt_refused_iff]

/-- Settles O19: each command is the duty of its own shaped percent, in the three ranges of `shape`, and APPLY is
refused elsewhere. -/
theorem applyShapesAndConvertsEachMotor : Obligations.ApplyShapesAndConvertsEachMotor := by
  refine ⟨rfl, rfl, fun s => ⟨fun happly => ?_, fun hne => execApply_refused_iff.mpr ⟨hne, rfl⟩⟩⟩
  refine ⟨_, execApply_of_atApply happly, fun m => ?_⟩
  rw [PerMotor.get_map]
  refine ⟨fun hlow => ?_, fun hlo hhi => ?_, fun hhigh => ?_⟩
  · rw [shape_of_le_four hlow, duty_zero]
  · rw [shape_of_five_le_of_le_hundred hlo (by omega), duty_cast s.cfg (by omega)]
  · rw [shape_of_hundred_le hhigh, duty_hundred]

/-! ### DWRITE -/

/-- A motor is unwritten when the mask shares no bit with the motor's own (R43). -/
theorem maskHas_eq_false_iff (mask : BitVec 4) (m : Motor) :
    maskHas mask m = false ↔ mask &&& 1#4 <<< motorBit m = 0#4 := by
  have hand : mask &&& 1#4 <<< motorBit m = if maskHas mask m then 1#4 <<< motorBit m else 0#4 :=
    BitVec.and_twoPow mask (motorBit m)
  have hbit : 1#4 <<< motorBit m ≠ 0#4 := by cases m <;> decide
  rw [hand]
  cases maskHas mask m <;> simp [hbit]

theorem execDwrite_of_unwritten {m : Motor} {s : State} (hwrite : s.seq = .atWrite)
    (hmask : s.wmask &&& 1#4 <<< motorBit m = 0#4) :
    exec (.dwrite m) s = .next { s with
      dutyReg := s.dutyReg.set m (s.dcmd.get m)
      wmask := s.wmask ||| 1#4 <<< motorBit m
      seq := if s.wmask ||| 1#4 <<< motorBit m = 0b1111#4 then .atEmit else .atWrite } := by
  refine execDwrite_next_iff.mpr ⟨⟨hwrite, (maskHas_eq_false_iff _ _).mpr hmask⟩, ?_⟩
  simp [State.dutyWrite, State.setWmask, State.setSeq, maskFull, maskWith, hwrite]

theorem execDwrite_refused_iff {m : Motor} {s : State} {r : Refusal} :
    exec (.dwrite m) s = .refused r ↔
      (s.seq ≠ .atWrite ∨ s.wmask &&& 1#4 <<< motorBit m ≠ 0#4) ∧ r = .disabled (.dwrite m) := by
  rw [Ne, Ne, ← maskHas_eq_false_iff, ← not_and_or]
  simp [exec, execDwrite, attempt_refused_iff]

/-- Settles O22: the four written-out bits are the mask's bit of each motor, and DWRITE has its next state exactly
where that bit is free in WRITE. -/
theorem dwriteWritesOneRegisterOncePerCycle : Obligations.DwriteWritesOneRegisterOncePerCycle := by
  refine ⟨fun _ => rfl, rfl, rfl, rfl, rfl, fun m bit s hbit => ?_⟩
  obtain rfl : bit = 1#4 <<< motorBit m := by
    rw [hbit]
    cases m <;> rfl
  exact ⟨execDwrite_of_unwritten, fun hoff => execDwrite_refused_iff.mpr ⟨hoff, rfl⟩⟩

/-! ### PWMB -/

/-- Settles O23: PWMB has no enabling condition, and its one write is the four active duties. -/
theorem pwmbLatchesAllFourDuties : Obligations.PwmbLatchesAllFourDuties :=
  ⟨rfl, rfl, fun _ => execPwmb_next_iff.mpr rfl⟩

end Sys2Proof.Machine
end

section
/-! ## Control loop (R133, R139 to R141)

When each operation is enabled, where the sequencer goes next, the decimal numerals and the telemetry line. -/

namespace Sys2Proof.Machine

open Sys2Proof.Safety

/-! ### When each operation is enabled (R20, R133) -/

@[simp] theorem enabled_tick (s : State) : Enabled .tick s :=
  ⟨_, execTick_next_iff.mpr rfl⟩

@[simp] theorem enabled_edge_iff {c : Channel} {pol : Polarity} {s : State} :
    Enabled (.edge c pol) s ↔ s.rcLvl.get c = levelBefore pol := by
  simp [Enabled, execEdge_next_iff]

@[simp] theorem enabled_svc_iff {c : Channel} {s : State} : Enabled (.svc c) s ↔ s.pend.get c = true := by
  simp [Enabled, execSvc_next_iff]

@[simp] theorem enabled_frame (lvl : Level) (s : State) : Enabled (.frame lvl) s :=
  ⟨_, execFrame_next_iff.mpr rfl⟩

@[simp] theorem enabled_wopen_iff {s : State} : Enabled .wopen s ↔ s.seq = .atOpen := by
  simp [Enabled, execWopen_next_iff]

@[simp] theorem enabled_wclose_iff {s : State} : Enabled .wclose s ↔ s.seq = .atWait := by
  simp [Enabled, execWclose_next_iff]

@[simp] theorem enabled_conv_iff {s : State} : Enabled .conv s ↔ s.seq = .atConvert := by
  simp [Enabled, execConv_next_iff]

@[simp] theorem enabled_mzero_iff {s : State} : Enabled .mzero s ↔ s.seq = .atZero := by
  simp [Enabled, execMzero_next_iff]

@[simp] theorem enabled_mix_iff {s : State} : Enabled .mix s ↔ s.seq = .atMix := by
  simp [Enabled, execMix_next_iff]

@[simp] theorem enabled_apply_iff {s : State} : Enabled .apply s ↔ s.seq = .atApply := by
  simp [Enabled, execApply_next_iff]

@[simp] theorem enabled_dwrite_iff {m : Motor} {s : State} :
    Enabled (.dwrite m) s ↔ s.seq = .atWrite ∧ maskHas s.wmask m = false := by
  simp [Enabled, execDwrite_next_iff]

@[simp] theorem enabled_pwmb (s : State) : Enabled .pwmb s :=
  ⟨_, execPwmb_next_iff.mpr rfl⟩

@[simp] theorem enabled_emit_iff {s : State} : Enabled .emit s ↔ s.seq = .atEmit := by
  simp [Enabled, execEmit_next_iff]

/-- ENV and CAP read nothing of the sequencer's place in its cycle. -/
theorem enabled_setSeq_iff {i : Instr} (hi : i.agent ≠ .seq) (s : State) (q : SeqState) :
    Enabled i (s.setSeq q) ↔ Enabled i s := by
  cases i with
  | tick => simp
  | edge c pol => simp
  | svc c => simp
  | frame lvl => simp
  | pwmb => simp
  | _ => exact absurd rfl hi

/-! ### The sequencer's table (R133) -/

/-- A write leaves WRITE exactly when its own bit fills the mask. -/
theorem execDwrite_seq {m : Motor} {s t : State} (h : exec (.dwrite m) s = .next t) :
    t.seq = if t.wmask = 0b1111#4 then .atEmit else .atWrite := by
  obtain ⟨⟨hwrite, -⟩, rfl⟩ := execDwrite_next_iff.mp h
  simp [maskFull, hwrite]

/-- Settles O28: the enabling condition of each SEQ operation, its successor from the write of `SEQ` in its next state,
and the enabling conditions of ENV and CAP, in which `SEQ` does not occur. -/
theorem sequencerFollowsItsTable : Obligations.SequencerFollowsItsTable := by
  refine ⟨fun s i hseq => ?_, fun s t => ⟨?_, ?_, ?_, ?_, ?_, ?_, fun m => execDwrite_seq, ?_⟩,
    fun s i q hi => (enabled_setSeq_iff hi s q).symm⟩
  · cases i with
    | wopen => simp
    | wclose => simp
    | conv => simp
    | mzero => simp
    | mix => simp
    | apply => simp
    | dwrite m => cases m <;> simp [maskHas, motorBit]
    | emit => simp
    | _ => cases hseq
  · intro h; simp [execWopen_next_iff.mp h]
  · intro h; simp [execWclose_next_iff.mp h]
  · intro h; simp [execConv_next_iff.mp h]
  · intro h; simp [execMzero_next_iff.mp h]
  · intro h; simp [execMix_next_iff.mp h]
  · intro h; simp [execApply_next_iff.mp h]
  · intro h; simp [execEmit_next_iff.mp h]

/-! ### Decimal numerals (R141) -/

theorem digitByte_toNat {d : Nat} (h : d < 10) : (digitByte d).toNat = 0x30 + d := by
  rw [digitByte, BitVec.toNat_ofNat]
  omega

/-- The recursion of `dec`: from a number's tenth part to the number. -/
theorem dec_induction {P : Nat → Prop} (short : ∀ n < 10, P n) (long : ∀ n, 10 ≤ n → P (n / 10) → P n) (n : Nat) :
    P n := by
  induction n using Nat.strong_induction_on with
  | _ n ih =>
    by_cases h : n < 10
    · exact short n h
    · exact long n (by omega) (ih (n / 10) (by omega))

theorem exists_digit_of_mem_dec {n : Nat} {b : Byte} (hb : b ∈ dec n) : ∃ d < 10, b = digitByte d := by
  induction n using dec_induction with
  | short n h =>
    rw [dec_of_lt_ten h, List.mem_singleton] at hb
    exact ⟨n, h, hb⟩
  | long n h ih =>
    rw [dec_of_ten_le h, List.mem_append, List.mem_singleton] at hb
    obtain hfront | hlast := hb
    · exact ih hfront
    · exact ⟨n % 10, by omega, hlast⟩

/-- The number a string of ASCII digits stands for in base 10. -/
def readDecimal (bs : List Byte) : Nat := bs.foldl (fun acc b => 10 * acc + (b.toNat - 0x30)) 0

theorem readDecimal_append_digit (bs : List Byte) {d : Nat} (h : d < 10) :
    readDecimal (bs ++ [digitByte d]) = 10 * readDecimal bs + d := by
  simp [readDecimal, digitByte_toNat h]

theorem readDecimal_dec (n : Nat) : readDecimal (dec n) = n := by
  induction n using dec_induction with
  | short n h => simpa [dec_of_lt_ten h, readDecimal] using readDecimal_append_digit [] h
  | long n h ih =>
    rw [dec_of_ten_le h, readDecimal_append_digit _ (by omega), ih]
    omega

/-- A long number has the first digit of its tenth part, which is not 0 either. -/
theorem dec_head_digit {n : Nat} (hn : n ≠ 0) : ∃ d < 10, d ≠ 0 ∧ (dec n).head? = some (digitByte d) := by
  induction n using dec_induction with
  | short n h => exact ⟨n, h, hn, by simp [dec_of_lt_ten h]⟩
  | long n h ih =>
    obtain ⟨d, hlt, hne, hhead⟩ := ih (by omega)
    exact ⟨d, hlt, hne, by simp [dec_of_ten_le h, hhead]⟩

theorem dec_head_ne_zero {n : Nat} (hn : n ≠ 0) : (dec n).head? ≠ some 0x30#8 := by
  obtain ⟨d, hlt, hne, hhead⟩ := dec_head_digit hn
  rw [hhead, ne_eq, Option.some_inj, ← BitVec.toNat_inj, digitByte_toNat hlt]
  simpa using hne

theorem sdec_of_neg {v : Int} (h : v < 0) : sdec v = 0x2D#8 :: dec v.natAbs := by
  have habs : (-v).toNat = v.natAbs := by omega
  rw [sdec, if_pos h, habs]

theorem sdec_of_nonneg {v : Int} (h : 0 ≤ v) : sdec v = dec v.natAbs := by
  have habs : v.toNat = v.natAbs := by omega
  rw [sdec, if_neg (by omega), habs]

/-- Settles O26: each digit of `dec`, what its digits read as, and its first digit, by induction along its recursion;
then the two signs of `sdec`. -/
theorem numbersArePlainDecimal : Obligations.NumbersArePlainDecimal := by
  refine ⟨dec_of_lt_ten (by decide), fun n => ⟨fun b hb => ?_, readDecimal_dec n, dec_head_ne_zero⟩,
    fun v => ⟨sdec_of_neg, sdec_of_nonneg⟩⟩
  obtain ⟨d, hlt, rfl⟩ := exists_digit_of_mem_dec hb
  rw [digitByte_toNat hlt]
  omega

/-! ### EMIT (R139, R140) -/

theorem newlineBytes_eq (n : Newline) : newlineBytes n = if n = .lf then [0x0A#8] else [0x0D#8, 0x0A#8] := by
  cases n <;> rfl

/-- The line with its separators written out (R140). -/
theorem tlmLine_eq (cfg : Config) (stab : PerChannel Nat) (pct : PerChannel (BitVec 8)) :
    tlmLine cfg stab pct =
      dec stab.pitch ++ [0x2C#8] ++ sdec pct.pitch.toInt ++ [0x20#8] ++
        dec stab.roll ++ [0x2C#8] ++ sdec pct.roll.toInt ++ [0x20#8] ++
        (if cfg.newline = .lf then [0x0A#8] else [0x0D#8, 0x0A#8]) := by
  simp only [tlmLine, tlmItem, newlineBytes_eq, List.append_assoc]

theorem execEmit_of_atEmit {s : State} (hemit : s.seq = .atEmit) :
    exec .emit s = .next { s with tlm := s.tlm ++ tlmLine s.cfg s.stabW s.pct, seq := .atOpen } :=
  execEmit_next_iff.mpr ⟨hemit, rfl⟩

theorem execEmit_refused_iff {s : State} {r : Refusal} :
    exec .emit s = .refused r ↔ s.seq ≠ .atEmit ∧ r = .disabled .emit := by
  simp [exec, execEmit, attempt_refused_iff]

/-- Settles O25: EMIT appends the line of `tlmLine_eq` with `SEQ` at EMIT and is refused elsewhere. -/
theorem emitAppendsTheWholeLine : Obligations.EmitAppendsTheWholeLine := by
  refine ⟨rfl, rfl, fun s => ⟨fun hemit => ?_, fun hne => execEmit_refused_iff.mpr ⟨hne, rfl⟩⟩⟩
  rw [execEmit_of_atEmit hemit, tlmLine_eq]

end Sys2Proof.Machine
end

section
/-! ## The decoder and the encoder as inverses (R65, R68)

The words of the 21 operations are exactly the legal words, so the decoder's answer on them decides both inverses. -/

namespace Sys2Proof

/-! ### The encoder's words -/

/-- Each operation's word is covered by its own row and by none before it, and the row's fields give the operands
back. -/
@[simp] theorem decodeWord_encodeWord (i : Instr) : decodeWord (encodeWord i) = some i := by
  cases i with
  | edge c pol => cases c <;> cases pol <;> rfl
  | svc c => cases c <;> rfl
  | frame lvl => cases lvl <;> rfl
  | dwrite m => cases m <;> rfl
  | _ => rfl

/-- The decoder reads an operation's one byte and leaves what follows it. -/
theorem decode_encode_append (i : Instr) (rest : List Byte) : decode (encode i ++ rest) = .legal i rest :=
  decode_cons_eq_legal_iff.mpr ⟨decodeWord_encodeWord i, rfl⟩

/-- Settles O36, from the decoder's answer on each operation's word. -/
theorem decodeInvertsEncode : Obligations.DecodeInvertsEncode := decode_encode_append

/-- The operations of the alphabet, each operand at each value, in the order of the opcode map. -/
def alphabet : List Instr :=
  [.tick, .edge .pitch .rise, .edge .roll .rise, .edge .pitch .fall, .edge .roll .fall, .svc .pitch, .svc .roll,
   .frame .low, .frame .high, .wopen, .wclose, .conv, .mzero, .mix, .apply,
   .dwrite .m0, .dwrite .m1, .dwrite .m2, .dwrite .m3, .pwmb, .emit]

theorem legalValues_eq_image_encodeWord :
    legalValues = (alphabet.map fun i => (encodeWord i).toNat).toFinset := by decide

theorem exists_encodeWord_of_decodeWord_isSome {w : Byte} (h : decodeWord w ≠ none) : ∃ i, encodeWord i = w := by
  rw [ne_eq, decodeWord_eq_none_iff_notMem_legalValues, not_not, legalValues_eq_image_encodeWord,
    List.mem_toFinset, List.mem_map] at h
  obtain ⟨i, -, hi⟩ := h
  exact ⟨i, BitVec.eq_of_toNat_eq hi⟩

/-- A legal word is some operation's word, and decoding that word answers the operation. -/
theorem encodeWord_of_decodeWord {w : Byte} {i : Instr} (h : decodeWord w = some i) : encodeWord i = w := by
  obtain ⟨j, rfl⟩ := exists_encodeWord_of_decodeWord_isSome (w := w) (by simp [h])
  rw [decodeWord_encodeWord, Option.some_inj] at h
  rw [h]

/-- Settles O37: the decoder reads one word, and a legal word is the word of the operation it decodes to. -/
theorem encodeInvertsDecode : Obligations.EncodeInvertsDecode := by
  intro w i rest tail h
  obtain ⟨hw, rfl⟩ := decode_cons_eq_legal_iff.mp h
  exact ⟨by rw [encode, encodeWord_of_decodeWord hw], rfl⟩

/-- Settles O38: each word written out is the encoding of the operation. -/
theorem writtenOutWordsDecode : Obligations.WrittenOutWordsDecode :=
  ⟨decode_encode_append .tick [], decode_encode_append (.edge .roll .rise) [],
    decode_encode_append (.edge .pitch .fall) [], decode_encode_append (.svc .roll) [],
    decode_encode_append (.frame .high) [], decode_encode_append .wclose [], decode_encode_append .mix [],
    decode_encode_append (.dwrite .m2) [], decode_encode_append .pwmb [], decode_encode_append .emit []⟩

/-! ### The rows of the opcode map -/

/-- Two rows differ in a bit that both of their masks test. -/
def OpcodeRow.Apart (r q : OpcodeRow) : Prop := r.pattern &&& q.mask ≠ q.pattern &&& r.mask

theorem OpcodeRow.Apart.not_both_cover {r q : OpcodeRow} (h : r.Apart q) (w : Byte) :
    ¬ (r.covers w = true ∧ q.covers w = true) := by
  rintro ⟨hr, hq⟩
  rw [OpcodeRow.covers, beq_iff_eq] at hr hq
  apply h
  rw [← hr, ← hq, BitVec.and_assoc, BitVec.and_assoc, BitVec.and_comm r.mask]

theorem opcodeMap_pairwise_apart : opcodeMap.Pairwise OpcodeRow.Apart := by
  unfold OpcodeRow.Apart
  decide

theorem length_filter_covers_le_one (w : Byte) : (opcodeMap.filter fun r => r.covers w).length ≤ 1 := by
  have apart := opcodeMap_pairwise_apart.filter fun r => r.covers w
  have covers : ∀ r ∈ opcodeMap.filter fun r => r.covers w, r.covers w = true :=
    fun r hr => (List.mem_filter.mp hr).2
  match hrows : opcodeMap.filter fun r => r.covers w with
  | [] => simp [hrows]
  | [_] => simp [hrows]
  | r :: q :: rows =>
    rw [hrows] at apart covers
    have hrq : r.Apart q := List.rel_of_pairwise_cons apart (by simp)
    exact absurd ⟨covers r (by simp), covers q (by simp)⟩ (hrq.not_both_cover w)

/-- 256 words, less the 235 reserved ones. -/
theorem length_filter_legal :
    ((List.range 256).filter fun k => (decodeWord (BitVec.ofNat 8 k)).isSome).length = 21 := by
  have split := List.length_eq_length_filter_add (l := List.range 256)
    fun k => decide (decodeWord (BitVec.ofNat 8 k) = none)
  have legal : ∀ k, (!decide (decodeWord (BitVec.ofNat 8 k) = none)) = (decodeWord (BitVec.ofNat 8 k)).isSome := by
    intro k
    cases decodeWord (BitVec.ofNat 8 k) <;> rfl
  simp only [legal, length_filter_reserved, List.length_range] at split
  omega

/-- Settles O34: two rows differ in a bit both test, and the legal words are those R80 does not reserve. -/
theorem opcodeRowsAreDisjoint : Obligations.OpcodeRowsAreDisjoint :=
  ⟨rfl, length_filter_covers_le_one, length_filter_legal⟩

/-! ### The spelling of an operation (R85) -/

namespace Machine

/-- Settles O42: the parser run on the spelling of each operation, each operand at each value. -/
theorem everySpellingReadsBack : Obligations.EverySpellingReadsBack := by
  intro i
  cases i with
  | edge c pol => cases c <;> cases pol <;> rfl
  | svc c => cases c <;> rfl
  | frame lvl => cases lvl <;> rfl
  | dwrite m => cases m <;> rfl
  | _ => rfl

end Machine

end Sys2Proof
end

section
/-! ## What an operation leaves unchanged (R26, R44, R45, R49)

The writers of each element, the steps of one agent against the elements of another, and the operation as the one word
of its step. -/

namespace Sys2Proof

/-- A write of one entry is seen in no other. -/
theorem PerChannel.eq_of_get_set_ne {α : Type} {x : PerChannel α} {c d : Channel} {v : α}
    (h : (x.set c v).get d ≠ x.get d) : c = d := by
  by_contra hne
  exact h (PerChannel.get_set_other x v (Ne.symm hne))

theorem PerMotor.eq_of_get_set_ne {α : Type} {x : PerMotor α} {m k : Motor} {v : α}
    (h : (x.set m v).get k ≠ x.get k) : m = k := by
  by_contra hne
  exact h (PerMotor.get_set_other x v (Ne.symm hne))

namespace Machine

open Sys2Proof.Safety

/-! ### The outcome of an operation (R20, R146) -/

/-- An operation is refused exactly where it is not enabled, and by its own name. -/
theorem exec_refused_iff {i : Instr} {s : State} {r : Refusal} :
    exec i s = .refused r ↔ ¬ Enabled i s ∧ r = .disabled i := by
  obtain ⟨enabled, t, h⟩ := exec_eq_attempt i s
  rw [Enabled, h, attempt_refused_iff]
  cases enabled <;> simp

/-- Settles O43: every operation is an attempt, which has its next state or is refused. -/
theorem noOperationFaults : Obligations.NoOperationFaults := by
  refine fun i s => ⟨exec_ne_fault i s, ?_⟩
  by_cases h : Enabled i s
  · exact .inl h
  · exact .inr (exec_refused_iff.mpr ⟨h, rfl⟩)

theorem perform_cons_of_next {i : Instr} {s t : State} (h : exec i s = .next t) (is : List Instr) :
    perform (i :: is) s = perform is t := by
  simp only [perform, h]

theorem perform_cons_of_refused {i : Instr} {s : State} {r : Refusal} (h : exec i s = .refused r)
    (is : List Instr) : perform (i :: is) s = .refused r := by
  simp only [perform, h]

/-- What no operation of a sequence changes, the sequence does not change. -/
theorem perform_frame {α : Type} {f : State → α} {is : List Instr}
    (frame : ∀ i ∈ is, ∀ s t : State, exec i s = .next t → f t = f s) {s u : State} (h : perform is s = .next u) :
    f u = f s :=
  perform_keeps (P := fun t => f t = f s) (fun i hi t v ht hv => (frame i hi t v hv).trans ht) rfl h

/-! ### The service of a channel -/

/-- The state with the elements a service of channel `c` writes: the stamp, the width and the phase it leaves. -/
def State.serviced (s : State) (c : Channel) (stamp width : Nat) (phase : EdgePhase) : State :=
  { s with
    startTs := s.startTs.set c stamp
    rawW := s.rawW.set c width
    phase := s.phase.set c phase
    live := true
    pend := s.pend.set c false }

/-- A service reads the tick and its own channel: it leaves one stamp, width and phase in every state that agrees
there (R89). -/
theorem execSvc_of_agree {c : Channel} {s : State} (hpend : s.pend.get c = true) :
    ∃ stamp width phase, ∀ s' : State, s'.tick = s.tick → s'.cfg = s.cfg → s'.phase.get c = s.phase.get c →
      s'.startTs.get c = s.startTs.get c → s'.rawW.get c = s.rawW.get c → s'.pend.get c = s.pend.get c →
      exec (.svc c) s' = .next (s'.serviced c stamp width phase) := by
  cases hphase : s.phase.get c with
  | awaitingRising =>
    refine ⟨s.tick, s.rawW.get c, .awaitingFalling, fun s' htick _ hphase' _ hraw hpend' => ?_⟩
    rw [execSvc_rising (hpend'.trans hpend) hphase', State.serviced, ← hraw, PerChannel.set_get_self, htick]
  | awaitingFalling =>
    refine ⟨s.startTs.get c, pulseWidth s.cfg (s.startTs.get c) s.tick, .awaitingRising,
      fun s' htick hcfg hphase' hstart _ hpend' => ?_⟩
    rw [execSvc_falling (hpend'.trans hpend) hphase', State.serviced, htick, hcfg, hstart]
    nth_rw 2 [← hstart]
    rw [PerChannel.set_get_self]

/-- The two cases of a service that ran. -/
theorem execSvc_next_cases {c : Channel} {s t : State} (h : exec (.svc c) s = .next t) :
    s.pend.get c = true ∧
    ((s.phase.get c = .awaitingRising ∧ t = { s with
        startTs := s.startTs.set c s.tick
        phase := s.phase.set c .awaitingFalling
        live := true
        pend := s.pend.set c false }) ∨
     (s.phase.get c = .awaitingFalling ∧ t = { s with
        rawW := s.rawW.set c (pulseWidth s.cfg (s.startTs.get c) s.tick)
        phase := s.phase.set c .awaitingRising
        live := true
        pend := s.pend.set c false })) := by
  obtain ⟨hpend, rfl⟩ := execSvc_next_iff.mp h
  refine ⟨hpend, ?_⟩
  cases hphase : s.phase.get c with
  | awaitingRising =>
    rw [captureBody_rising hphase]
    exact .inl ⟨rfl, rfl⟩
  | awaitingFalling =>
    rw [captureBody_falling hphase]
    exact .inr ⟨rfl, rfl⟩

/-! ### The writers of each element (R26) -/

/-- An edge sets `PEND[c]` or leaves it. -/
theorem pendAfterEdge_eq_true_of_ne {phase : EdgePhase} {pol : Polarity} {b : Bool}
    (h : pendAfterEdge phase pol b ≠ b) : pendAfterEdge phase pol b = true := by
  cases b with
  | true => simp [pendAfterEdge]
  | false => simpa using h

/-- Settles O44: the next state of each operation against the state before it, element by element. -/
theorem onlyItsWritersChangeAnElement : Obligations.OnlyItsWritersChangeAnElement := by
  intro i s t h
  cases i with
  | tick => simp [execTick_next_iff.mp h]
  | edge c pol =>
    obtain ⟨-, rfl⟩ := execEdge_next_iff.mp h
    have hpend : ∀ d, (s.pend.set c (pendAfterEdge (s.phase.get c) pol (s.pend.get c))).get d ≠ s.pend.get d →
        (s.pend.set c (pendAfterEdge (s.phase.get c) pol (s.pend.get c))).get d = true ∧ c = d := by
      intro d hne
      obtain rfl := PerChannel.eq_of_get_set_ne hne
      rw [PerChannel.get_set_same] at hne ⊢
      exact ⟨pendAfterEdge_eq_true_of_ne hne, rfl⟩
    simpa using hpend
  | svc c =>
    have hpend : ∀ d, (s.pend.set c false).get d ≠ s.pend.get d → (s.pend.set c false).get d = false ∧ c = d := by
      intro d hne
      obtain rfl := PerChannel.eq_of_get_set_ne hne
      exact ⟨PerChannel.get_set_same _ _ _, rfl⟩
    obtain ⟨-, ⟨hphase, rfl⟩ | ⟨hphase, rfl⟩⟩ := execSvc_next_cases h
    · simpa [hphase] using hpend
    · simpa [hphase] using hpend
  | frame lvl => simp [execFrame_next_iff.mp h]
  | wopen => simp [execWopen_next_iff.mp h, Instr.agent]
  | wclose => simp [execWclose_next_iff.mp h, Instr.agent]
  | conv => simp [execConv_next_iff.mp h, Instr.agent]
  | mzero => simp [execMzero_next_iff.mp h, Instr.agent]
  | mix => simp [execMix_next_iff.mp h, Instr.agent]
  | apply => simp [execApply_next_iff.mp h, Instr.agent]
  | dwrite m =>
    have hreg : ∀ k, (s.dutyReg.set m (s.dcmd.get m)).get k ≠ s.dutyReg.get k → m = k :=
      fun k hne => PerMotor.eq_of_get_set_ne hne
    simpa [execDwrite_next_iff.mp h, Instr.agent] using hreg
  | pwmb => simp [execPwmb_next_iff.mp h]
  | emit => simp [execEmit_next_iff.mp h, Instr.agent]

section
variable {i : Instr} {s t : State}

theorem exec_cfg (h : exec i s = .next t) : t.cfg = s.cfg := by
  obtain ⟨-, -, -, -, -, -, -, -, -, -, -, -, -, -, -, -, -, hcfg, -⟩ := onlyItsWritersChangeAnElement i s t h
  exact hcfg

theorem exec_tick_of_ne (h : exec i s = .next t) (hi : i ≠ .tick) : t.tick = s.tick := by
  obtain ⟨htick, -⟩ := onlyItsWritersChangeAnElement i s t h
  exact not_imp_comm.mp htick hi

theorem exec_stabW_of_ne (h : exec i s = .next t) (hi : i ≠ .wclose) : t.stabW = s.stabW := by
  obtain ⟨-, -, -, -, -, -, -, hstab, -⟩ := onlyItsWritersChangeAnElement i s t h
  exact not_imp_comm.mp hstab hi

theorem exec_pct_of_ne (h : exec i s = .next t) (hi : i ≠ .conv) : t.pct = s.pct := by
  obtain ⟨-, -, -, -, -, -, -, -, hpct, -⟩ := onlyItsWritersChangeAnElement i s t h
  exact not_imp_comm.mp hpct hi

theorem exec_motor_of_ne (h : exec i s = .next t) (hz : i ≠ .mzero) (hm : i ≠ .mix) : t.motor = s.motor := by
  obtain ⟨-, -, -, -, -, -, -, -, -, hmotor, -⟩ := onlyItsWritersChangeAnElement i s t h
  exact not_imp_comm.mp hmotor (not_or.mpr ⟨hz, hm⟩)

theorem exec_dcmd_of_ne (h : exec i s = .next t) (hi : i ≠ .apply) : t.dcmd = s.dcmd := by
  obtain ⟨-, -, -, -, -, -, -, -, -, -, hdcmd, -⟩ := onlyItsWritersChangeAnElement i s t h
  exact not_imp_comm.mp hdcmd hi

theorem exec_dutyReg_get_of_ne {m : Motor} (h : exec i s = .next t) (hi : i ≠ .dwrite m) :
    t.dutyReg.get m = s.dutyReg.get m := by
  obtain ⟨-, -, -, -, -, -, -, -, -, -, -, -, -, -, hreg, -⟩ := onlyItsWritersChangeAnElement i s t h
  exact not_imp_comm.mp (hreg m) hi

theorem exec_dutyAct_of_ne (h : exec i s = .next t) (hi : i ≠ .pwmb) : t.dutyAct = s.dutyAct := by
  obtain ⟨-, -, -, -, -, -, -, -, -, -, -, -, -, -, -, hact, -⟩ := onlyItsWritersChangeAnElement i s t h
  exact not_imp_comm.mp hact hi

end

theorem perform_cfg {is : List Instr} {s t : State} (h : perform is s = .next t) : t.cfg = s.cfg :=
  perform_frame (fun _ _ _ _ hexec => exec_cfg hexec) h

/-! ### One agent's steps and another's elements (R44, R45) -/

/-- `t` has the sequencer's elements of `s`: it differs at most in those of the capture and of the pins, and in the
active duties. -/
def SameCycle (s t : State) : Prop :=
  ∃ tick rcLvl phase startTs rawW live pend framePin dutyAct, t = { s with
    tick := tick, rcLvl := rcLvl, phase := phase, startTs := startTs, rawW := rawW, live := live, pend := pend,
    framePin := framePin, dutyAct := dutyAct }

theorem SameCycle.refl (s : State) : SameCycle s s := ⟨_, _, _, _, _, _, _, _, _, rfl⟩

theorem SameCycle.trans {s t u : State} (hst : SameCycle s t) (htu : SameCycle t u) : SameCycle s u := by
  obtain ⟨_, _, _, _, _, _, _, _, _, rfl⟩ := hst
  obtain ⟨_, _, _, _, _, _, _, _, _, rfl⟩ := htu
  exact ⟨_, _, _, _, _, _, _, _, _, rfl⟩

/-- ENV and CAP write none of the sequencer's elements. -/
theorem exec_of_agent_ne_seq {i : Instr} {s t : State} (hi : i.agent ≠ .seq) (h : exec i s = .next t) :
    SameCycle s t := by
  cases i with
  | tick => exact ⟨_, _, _, _, _, _, _, _, _, execTick_next_iff.mp h⟩
  | edge c pol =>
    obtain ⟨-, ht⟩ := execEdge_next_iff.mp h
    exact ⟨_, _, _, _, _, _, _, _, _, ht⟩
  | svc c =>
    obtain ⟨-, ⟨-, ht⟩ | ⟨-, ht⟩⟩ := execSvc_next_cases h
    · exact ⟨_, _, _, _, _, _, _, _, _, ht⟩
    · exact ⟨_, _, _, _, _, _, _, _, _, ht⟩
  | frame lvl => exact ⟨_, _, _, _, _, _, _, _, _, execFrame_next_iff.mp h⟩
  | pwmb => exact ⟨_, _, _, _, _, _, _, _, _, execPwmb_next_iff.mp h⟩
  | _ => exact absurd rfl hi

/-- SEQ writes the elements of the cycle, and `LIVE`. -/
theorem exec_of_agent_eq_seq {i : Instr} {s t : State} (hi : i.agent = .seq) (h : exec i s = .next t) :
    ∃ live stabW pct motor dcmd seq wmask dutyReg tlm, t = { s with
      live := live, stabW := stabW, pct := pct, motor := motor, dcmd := dcmd, seq := seq, wmask := wmask,
      dutyReg := dutyReg, tlm := tlm } := by
  cases i with
  | wopen => exact ⟨_, _, _, _, _, _, _, _, _, (execWopen_next_iff.mp h).2⟩
  | wclose => exact ⟨_, _, _, _, _, _, _, _, _, (execWclose_next_iff.mp h).2⟩
  | conv => exact ⟨_, _, _, _, _, _, _, _, _, (execConv_next_iff.mp h).2⟩
  | mzero => exact ⟨_, _, _, _, _, _, _, _, _, (execMzero_next_iff.mp h).2⟩
  | mix => exact ⟨_, _, _, _, _, _, _, _, _, (execMix_next_iff.mp h).2⟩
  | apply => exact ⟨_, _, _, _, _, _, _, _, _, (execApply_next_iff.mp h).2⟩
  | dwrite m => exact ⟨_, _, _, _, _, _, _, _, _, (execDwrite_next_iff.mp h).2⟩
  | emit => exact ⟨_, _, _, _, _, _, _, _, _, (execEmit_next_iff.mp h).2⟩
  | _ => cases hi

/-- The state with other contents in the elements SEQ does not read (R44, R26), and another schedule. -/
def State.withCapture (s : State) (tick : Nat) (rcLvl : PerChannel Level) (phase : PerChannel EdgePhase)
    (startTs : PerChannel Nat) (pend : PerChannel Bool) (trace : List Byte) : State :=
  { s with tick := tick, rcLvl := rcLvl, phase := phase, startTs := startTs, pend := pend, trace := trace }

section
variable {i : Instr} {s t : State} (tick : Nat) (rcLvl : PerChannel Level) (phase : PerChannel EdgePhase)
  (startTs : PerChannel Nat) (pend : PerChannel Bool) (trace : List Byte)

theorem exec_withCapture (hi : i.agent = .seq) (h : exec i s = .next t) :
    exec i (s.withCapture tick rcLvl phase startTs pend trace) =
      .next (t.withCapture tick rcLvl phase startTs pend trace) := by
  cases i with
  | wopen =>
    obtain ⟨hseq, rfl⟩ := execWopen_next_iff.mp h
    exact execWopen_next_iff.mpr ⟨hseq, rfl⟩
  | wclose =>
    obtain ⟨hseq, rfl⟩ := execWclose_next_iff.mp h
    exact execWclose_next_iff.mpr ⟨hseq, rfl⟩
  | conv =>
    obtain ⟨hseq, rfl⟩ := execConv_next_iff.mp h
    exact execConv_next_iff.mpr ⟨hseq, rfl⟩
  | mzero =>
    obtain ⟨hseq, rfl⟩ := execMzero_next_iff.mp h
    exact execMzero_next_iff.mpr ⟨hseq, rfl⟩
  | mix =>
    obtain ⟨hseq, rfl⟩ := execMix_next_iff.mp h
    exact execMix_next_iff.mpr ⟨hseq, rfl⟩
  | apply =>
    obtain ⟨hseq, rfl⟩ := execApply_next_iff.mp h
    exact execApply_next_iff.mpr ⟨hseq, rfl⟩
  | dwrite m =>
    obtain ⟨hseq, rfl⟩ := execDwrite_next_iff.mp h
    exact execDwrite_next_iff.mpr ⟨hseq, rfl⟩
  | emit =>
    obtain ⟨hseq, rfl⟩ := execEmit_next_iff.mp h
    exact execEmit_next_iff.mpr ⟨hseq, rfl⟩
  | _ => cases hi

theorem enabled_withCapture_iff (hi : i.agent = .seq) :
    Enabled i (s.withCapture tick rcLvl phase startTs pend trace) ↔ Enabled i s := by
  refine ⟨?_, fun ⟨t, h⟩ => ⟨_, exec_withCapture tick rcLvl phase startTs pend trace hi h⟩⟩
  rintro ⟨t, h⟩
  exact ⟨_, exec_withCapture (s := s.withCapture tick rcLvl phase startTs pend trace)
    s.tick s.rcLvl s.phase s.startTs s.pend s.trace hi h⟩

end

/-- Settles O46: the next state and the enabling condition of a SEQ operation, with those elements replaced. -/
theorem sequencerReadsNoCaptureInternals : Obligations.SequencerReadsNoCaptureInternals := by
  intro i s tick rcLvl phase startTs pend hi
  refine ⟨fun t h => ?_, fun r h => ?_⟩
  · have replaced := exec_withCapture tick rcLvl phase startTs pend s.trace hi h
    obtain ⟨_, _, _, _, _, _, _, _, _, rfl⟩ := exec_of_agent_eq_seq hi h
    exact replaced
  · obtain ⟨hdisabled, rfl⟩ := exec_refused_iff.mp h
    exact exec_refused_iff.mpr
      ⟨(enabled_withCapture_iff tick rcLvl phase startTs pend s.trace hi).not.mpr hdisabled, rfl⟩

/-- After WCLOSE and before the next WOPEN no SEQ operation reads or writes `LIVE` or `RAW_W` (R153). -/
theorem exec_withWidths {i : Instr} {s t : State} (hi : i.agent = .seq) (hopen : i ≠ .wopen) (hclose : i ≠ .wclose)
    (h : exec i s = .next t) (rawW : PerChannel Nat) (live : Bool) :
    exec i { s with rawW := rawW, live := live } = .next { t with rawW := rawW, live := live } := by
  cases i with
  | conv =>
    obtain ⟨hseq, rfl⟩ := execConv_next_iff.mp h
    exact execConv_next_iff.mpr ⟨hseq, rfl⟩
  | mzero =>
    obtain ⟨hseq, rfl⟩ := execMzero_next_iff.mp h
    exact execMzero_next_iff.mpr ⟨hseq, rfl⟩
  | mix =>
    obtain ⟨hseq, rfl⟩ := execMix_next_iff.mp h
    exact execMix_next_iff.mpr ⟨hseq, rfl⟩
  | apply =>
    obtain ⟨hseq, rfl⟩ := execApply_next_iff.mp h
    exact execApply_next_iff.mpr ⟨hseq, rfl⟩
  | dwrite m =>
    obtain ⟨hseq, rfl⟩ := execDwrite_next_iff.mp h
    exact execDwrite_next_iff.mpr ⟨hseq, rfl⟩
  | emit =>
    obtain ⟨hseq, rfl⟩ := execEmit_next_iff.mp h
    exact execEmit_next_iff.mpr ⟨hseq, rfl⟩
  | wopen => exact absurd rfl hopen
  | wclose => exact absurd rfl hclose
  | _ => cases hi

/-- Settles O47: the operation runs alike on the elements the service writes, and the service alike after the
operation, which writes none of the elements it reads. -/
theorem serviceCommutesWithTheCooperativeContext : Obligations.ServiceCommutesWithTheCooperativeContext := by
  rintro c i s hi hopen hclose hpend ⟨t, ht⟩
  obtain ⟨stamp, width, phase, serve⟩ := execSvc_of_agree hpend
  have first : exec (.svc c) s = .next (s.serviced c stamp width phase) := serve s rfl rfl rfl rfl rfl rfl
  have widths := exec_withWidths hi hopen hclose ht (s.rawW.set c width) true
  have after : exec (.svc c) t = .next (t.serviced c stamp width phase) := by
    obtain ⟨_, _, _, _, _, _, _, _, _, rfl⟩ := exec_of_agent_eq_seq hi ht
    exact serve _ rfl rfl rfl rfl rfl rfl
  have second : exec i (s.serviced c stamp width phase) = .next (t.serviced c stamp width phase) := by
    obtain ⟨_, _, _, _, _, _, _, _, _, rfl⟩ := exec_of_agent_eq_seq hi ht
    exact exec_withCapture s.tick s.rcLvl (s.phase.set c phase) (s.startTs.set c stamp)
      (s.pend.set c false) s.trace hi widths
  exact ⟨_, perform_cons_next_iff.mpr ⟨_, first, perform_cons_next_iff.mpr ⟨_, second, rfl⟩⟩,
    perform_cons_next_iff.mpr ⟨_, ht, perform_cons_next_iff.mpr ⟨_, after, rfl⟩⟩⟩

/-! ### The step of a schedule (R65) -/

/-- Settles O39: the two answers of the fetch. -/
theorem stepRunsTheDecodedOperation : Obligations.StepRunsTheDecodedOperation := by
  refine ⟨fun s i rest hdec => ?_, fun s hend => ?_⟩
  · simp only [step, State.fetch, hdec]
    rfl
  · simp [step, State.fetch, hend, decode]

/-- The next word of the schedule is the operation the step performs, on the words after it. -/
theorem step_setTrace_encode (i : Instr) (rest : List Byte) (s : State) :
    step (s.setTrace (encode i ++ rest)) = exec i (s.setTrace rest) := by
  obtain ⟨runs, -⟩ := stepRunsTheDecodedOperation
  exact runs _ i rest (decode_encode_append i rest)

/-- An operation does not read the schedule. -/
theorem exec_setTrace {i : Instr} {s t : State} (h : exec i s = .next t) (ws : List Byte) :
    exec i (s.setTrace ws) = .next (t.setTrace ws) := by
  by_cases hi : i.agent = .seq
  · have replaced := exec_withCapture s.tick s.rcLvl s.phase s.startTs s.pend ws hi h
    obtain ⟨_, _, _, _, _, _, _, _, _, rfl⟩ := exec_of_agent_eq_seq hi h
    exact replaced
  · cases i with
    | tick =>
      obtain rfl := execTick_next_iff.mp h
      exact execTick_next_iff.mpr rfl
    | edge c pol =>
      obtain ⟨hpin, rfl⟩ := execEdge_next_iff.mp h
      exact execEdge_next_iff.mpr ⟨hpin, rfl⟩
    | svc c =>
      obtain ⟨hpend, ⟨hphase, rfl⟩ | ⟨hphase, rfl⟩⟩ := execSvc_next_cases h
      · exact execSvc_rising hpend hphase
      · exact execSvc_falling hpend hphase
    | frame lvl =>
      obtain rfl := execFrame_next_iff.mp h
      exact execFrame_next_iff.mpr rfl
    | pwmb =>
      obtain rfl := execPwmb_next_iff.mp h
      exact execPwmb_next_iff.mpr rfl
    | _ => exact absurd rfl hi

theorem exec_setTrace_refused {i : Instr} {s : State} {r : Refusal} (h : exec i s = .refused r) (ws : List Byte) :
    exec i (s.setTrace ws) = .refused r := by
  obtain ⟨hdisabled, rfl⟩ := exec_refused_iff.mp h
  refine exec_refused_iff.mpr ⟨?_, rfl⟩
  rintro ⟨t, ht⟩
  exact hdisabled ⟨_, exec_setTrace ht s.trace⟩

/-- One word, one step, one operation: the run of the words is the sequence performed. -/
theorem run_flatMap_encode (ops : List Instr) (s : State) :
    Host.Core.run Sys2Proof.core ops.length (s.setTrace (ops.flatMap encode)) = perform ops (s.setTrace []) := by
  induction ops generalizing s with
  | nil => rfl
  | cons i ops ih =>
    have hstep := step_setTrace_encode i (ops.flatMap encode) s
    cases h : exec i (s.setTrace []) with
    | next t =>
      have hempty : t.setTrace [] = t := by
        obtain htrace : t.trace = [] := exec_trace h
        rw [← htrace]
        rfl
      rw [perform_cons_of_next h, ← hempty, ← ih t]
      exact run_succ_of_next (hstep.trans (exec_setTrace h _)) ops.length
    | fault f => exact absurd h (exec_ne_fault _ _ f)
    | refused r =>
      rw [perform_cons_of_refused h]
      exact run_succ_of_refused (hstep.trans (exec_setTrace_refused h _)) ops.length

/-- Settles O40, by induction on the operations, each the step of its own word. -/
theorem runningATracePerformsItsOperations : Obligations.RunningATracePerformsItsOperations := run_flatMap_encode

end Machine

end Sys2Proof
end

section
/-! ## Percents, motor percents and duties as arithmetic (R101 to R104, R112 to R118, R124)

The closed forms and the ranges of what CONV, MIX and APPLY compute. -/

namespace Sys2Proof.Machine

/-! ### The percent of a width (R101 to R103) -/

theorem percent_of_invalid {w : Nat} (h : w ≤ 900 ∨ 2100 ≤ w) : percent w = 0 := by
  rw [percent_eq, if_pos h]

theorem percent_of_valid {w : Nat} (lo : 900 < w) (hi : w < 2100) :
    percent w = (min 2000 (max 1000 (w : Int)) - 1000 + 2) / 5 - 100 := by
  rw [percent_eq, if_neg (by omega)]

/-- Between the clamps the percent is the rounded quotient (R99). -/
theorem percent_thousand_add {t : Nat} (h : t ≤ 1000) : percent (1000 + t) = ((t : Int) + 2) / 5 - 100 := by
  rw [percent_of_valid (by omega) (by omega)]
  omega

/-- Settles O10: the three branches of `percent`, the floor's interval, and the growth of clamp and floor. -/
theorem percentRangeRoundingAndMonotonicity : Obligations.PercentRangeRoundingAndMonotonicity := by
  refine ⟨percent_bounds, rfl, rfl, rfl, fun w => percent_of_invalid, fun w lo hi => ?_, fun w lo hi => ?_,
    fun t p ht lo hi => ?_, fun t ht => ?_, fun v w lo hle hi => ?_⟩
  · rw [percent_of_valid lo (by omega)]
    omega
  · rw [percent_of_valid (by omega) hi]
    omega
  · rw [percent_thousand_add ht]
    omega
  · rw [percent_thousand_add ht]
    omega
  · rw [percent_of_valid lo (by omega), percent_of_valid (by omega) hi]
    omega

/-- Settles O11: CONV takes each percent from its own channel's width. -/
theorem percentOfOneChannelIgnoresTheOther : Obligations.PercentOfOneChannelIgnoresTheOther := by
  intro c s s' t t' hstab h h'
  obtain ⟨-, rfl⟩ := execConv_next_iff.mp h
  obtain ⟨-, rfl⟩ := execConv_next_iff.mp h'
  simp [hstab]

/-! ### The mix from zeroed motors (R112, R113) -/

theorem plusMix_zero (p r : Int) :
    plusMix ⟨0, 0, 0, 0⟩ p r = ⟨max (-p) 0, max (-r) 0, max p 0, max r 0⟩ := by
  simp only [plusMix_eq, PerMotor.mk.injEq]
  omega

theorem xMix_zero (p r : Int) :
    xMix ⟨0, 0, 0, 0⟩ p r =
      ⟨max (-p) 0 + max r 0, max (-p) 0 + max (-r) 0, max p 0 + max (-r) 0, max p 0 + max r 0⟩ := by
  simp only [xMix_eq, PerMotor.mk.injEq]
  omega

/-- Percents of at most `b` in size give motor percents of at most `b` in the Plus frame, where one axis writes each
motor (R115). -/
theorem plusMix_zero_bounds {b p r : Int} (hp : -b ≤ p ∧ p ≤ b) (hr : -b ≤ r ∧ r ≤ b) (m : Motor) :
    0 ≤ (plusMix ⟨0, 0, 0, 0⟩ p r).get m ∧ (plusMix ⟨0, 0, 0, 0⟩ p r).get m ≤ b := by
  rw [plusMix_zero]
  cases m <;> simp only [PerMotor.get] <;> omega

/-- In either frame a motor sums at most one contribution of each axis (R117). -/
theorem mixFrame_zero_bounds {b p r : Int} (hp : -b ≤ p ∧ p ≤ b) (hr : -b ≤ r ∧ r ≤ b) (frame : Level) (m : Motor) :
    0 ≤ (mixFrame frame ⟨0, 0, 0, 0⟩ p r).get m ∧ (mixFrame frame ⟨0, 0, 0, 0⟩ p r).get m ≤ 2 * b := by
  cases frame with
  | high =>
    obtain ⟨lo, hi⟩ := plusMix_zero_bounds hp hr m
    exact ⟨lo, hi.trans (by omega)⟩
  | low =>
    rw [mixFrame, xMix_zero]
    cases m <;> simp only [PerMotor.get] <;> omega

theorem get_zeroMotors (m : Motor) : (PerMotor.mk 0#16 0#16 0#16 0#16).get m = 0#16 := by cases m <;> rfl

/-- From zeroed motors the 16-bit store is exact: the sums of 8-bit percents fit. -/
theorem mixedMotors_get_toInt_of_zero {s : State} (hzero : s.motor = ⟨0#16, 0#16, 0#16, 0#16⟩) (m : Motor) :
    ((mixedMotors s).get m).toInt =
      (mixFrame s.framePin ⟨0, 0, 0, 0⟩ s.pct.pitch.toInt s.pct.roll.toInt).get m := by
  have range (v : BitVec 8) : -128 ≤ v.toInt ∧ v.toInt ≤ 128 :=
    ⟨BitVec.le_toInt v, (BitVec.toInt_lt (x := v)).le⟩
  obtain ⟨lo, hi⟩ := mixFrame_zero_bounds (range s.pct.pitch) (range s.pct.roll) s.framePin m
  have hstart : s.motor.map (fun v => v.toInt) = ⟨0, 0, 0, 0⟩ := by
    rw [hzero]
    rfl
  rw [mixedMotors, hstart, PerMotor.get_map, storeMotor_toInt (by omega) (by omega)]

theorem mixedMotors_plus_of_zero {s : State} (hzero : s.motor = ⟨0#16, 0#16, 0#16, 0#16⟩)
    (hpin : s.framePin = .high) (m : Motor) :
    ((mixedMotors s).get m).toInt = (plusMix ⟨0, 0, 0, 0⟩ s.pct.pitch.toInt s.pct.roll.toInt).get m := by
  rw [mixedMotors_get_toInt_of_zero hzero, hpin, mixFrame]

theorem mixedMotors_x_of_zero {s : State} (hzero : s.motor = ⟨0#16, 0#16, 0#16, 0#16⟩)
    (hpin : s.framePin = .low) (m : Motor) :
    ((mixedMotors s).get m).toInt = (xMix ⟨0, 0, 0, 0⟩ s.pct.pitch.toInt s.pct.roll.toInt).get m := by
  rw [mixedMotors_get_toInt_of_zero hzero, hpin, mixFrame]

/-- Settles O17: the closed forms of the two tables, read motor by motor. -/
theorem mixFromZeroHasTheClosedForms : Obligations.MixFromZeroHasTheClosedForms := by
  rintro s p r hmix hzero rfl rfl
  refine ⟨_, execMix_of_atMix hmix, rfl, fun hpin => ?_, fun hpin => ?_⟩
  · have h := mixedMotors_plus_of_zero hzero hpin
    rw [plusMix_zero] at h
    exact ⟨h .m0, h .m1, h .m2, h .m3⟩
  · have h := mixedMotors_x_of_zero hzero hpin
    rw [xMix_zero] at h
    exact ⟨h .m0, h .m1, h .m2, h .m3⟩

/-- A centred stick leaves zeroed motors at zero in both frames (R118). -/
theorem mixedMotors_of_center {s : State} (hzero : s.motor = ⟨0#16, 0#16, 0#16, 0#16⟩)
    (hp : s.pct.pitch.toInt = 0) (hr : s.pct.roll.toInt = 0) : mixedMotors s = ⟨0#16, 0#16, 0#16, 0#16⟩ := by
  refine PerMotor.ext_get fun m => BitVec.eq_of_toInt_eq ?_
  have bounds := mixFrame_zero_bounds (b := 0) (p := 0) (r := 0) (by omega) (by omega) s.framePin m
  rw [mixedMotors_get_toInt_of_zero hzero, hp, hr, get_zeroMotors, BitVec.toInt_zero]
  omega

/-- Of two motors that take the two signs of one percent, one stands still (R115). -/
theorem eq_zero_or_eq_zero_of_opposite {a b : BitVec 16} {x : Int} (ha : a.toInt = max (-x) 0)
    (hb : b.toInt = max x 0) : a = 0#16 ∨ b = 0#16 := by
  rcases le_total 0 x with hsign | hsign
  · exact .inl (BitVec.eq_of_toInt_eq (ha.trans (max_eq_right (by omega))))
  · exact .inr (BitVec.eq_of_toInt_eq (hb.trans (max_eq_right hsign)))

/-- Settles O18: the closed forms bound each motor, and in the Plus frame opposite motors take the two signs of one
percent. -/
theorem mixerOutputRanges : Obligations.MixerOutputRanges := by
  rintro s t p r hzero rfl rfl hplo hphi hrlo hrhi h
  obtain ⟨-, rfl⟩ := execMix_next_iff.mp h
  simp only [State.setSeq_motor, State.setMotor_motor]
  refine ⟨fun hpin => ?_, fun hpin => ?_, mixedMotors_of_center hzero⟩
  · have motors := mixedMotors_plus_of_zero hzero hpin
    have closed := motors
    rw [plusMix_zero] at closed
    refine ⟨eq_zero_or_eq_zero_of_opposite (closed .m0) (closed .m2),
      eq_zero_or_eq_zero_of_opposite (closed .m1) (closed .m3), fun m => ?_⟩
    rw [motors m]
    exact plusMix_zero_bounds ⟨hplo, hphi⟩ ⟨hrlo, hrhi⟩ m
  · have motors := mixedMotors_get_toInt_of_zero hzero
    have closed := mixedMotors_x_of_zero hzero hpin
    rw [xMix_zero] at closed
    refine ⟨fun m => ?_, fun hp hr => ?_, fun hp hr => ?_, fun hp hr => ?_, fun hp hr => ?_⟩
    · rw [motors m]
      exact mixFrame_zero_bounds (b := 100) ⟨hplo, hphi⟩ ⟨hrlo, hrhi⟩ s.framePin m
    · simpa [hp, hr, PerMotor.get] using closed .m3
    · simpa [hp, hr, PerMotor.get] using closed .m0
    · simpa [hp, hr, PerMotor.get] using closed .m1
    · simpa [hp, hr, PerMotor.get] using closed .m2

/-! ### The duty of a shaped percent (R124) -/

/-- The clamp ends at 100 and the dead-zone removes everything below 5. -/
theorem shape_eq_zero_or_bounds (x : Int) : shape x = 0 ∨ (5 ≤ shape x ∧ shape x ≤ 100) := by
  rw [shape_eq]
  omega

theorem duty_five (cfg : Config) : duty cfg 5 = (5 * cfg.dutyFull + 50) / 100 := by
  rw [duty]
  omega

/-- The duties of shaped percents: 0, or from the duty of 5 percent to the full scale. -/
theorem duty_shape_eq_zero_or_bounds (cfg : Config) (x : Int) :
    duty cfg (shape x) = 0 ∨
      ((5 * cfg.dutyFull + 50) / 100 ≤ duty cfg (shape x) ∧ duty cfg (shape x) ≤ cfg.dutyFull) := by
  obtain hzero | ⟨lo, hi⟩ := shape_eq_zero_or_bounds x
  · rw [hzero]
    exact .inl (duty_zero cfg)
  · rw [← duty_five]
    exact .inr ⟨duty_mono cfg lo, (duty_mono cfg hi).trans_eq (duty_hundred cfg)⟩

theorem duty_shape_le (cfg : Config) (x : Int) : duty cfg (shape x) ≤ cfg.dutyFull := by
  obtain hzero | ⟨-, hi⟩ := duty_shape_eq_zero_or_bounds cfg x
  · omega
  · exact hi

/-- Each command after APPLY is the duty of its own shaped motor percent (R121). -/
theorem execApply_dcmd_get {s t : State} (h : exec .apply s = .next t) (m : Motor) :
    t.dcmd.get m = duty s.cfg (shape (s.motor.get m).toInt) := by
  obtain ⟨-, rfl⟩ := execApply_next_iff.mp h
  simp

/-- Settles O21: a shaped percent is 0 or at least 5, and the duty grows with it. -/
theorem dutyCommandsAvoidTheDeadZone : Obligations.DutyCommandsAvoidTheDeadZone := by
  refine ⟨shape_eq_zero_or_bounds, fun s t h m => ?_⟩
  rw [execApply_dcmd_get h]
  exact duty_shape_eq_zero_or_bounds s.cfg _

/-! ### A duty on its way to the output (R130) -/

/-- Settles O24: without PWMB the active duties stay, without another write the register keeps the command, and PWMB
takes the registers. -/
theorem dutyReachesTheOutputAtTheNextBoundary : Obligations.DutyReachesTheOutputAtTheNextBoundary := by
  intro m s t u between hwrite hboundary h
  have hact : u.dutyAct = t.dutyAct :=
    perform_frame (fun i hi _ _ hexec => exec_dutyAct_of_ne hexec (ne_of_mem_of_not_mem hi hboundary)) h
  refine ⟨hact.trans (exec_dutyAct_of_ne hwrite (by simp)), u.setDutyAct u.dutyReg, execPwmb_next_iff.mpr rfl, rfl,
    fun honce => ?_⟩
  have hreg : u.dutyReg.get m = t.dutyReg.get m :=
    perform_frame (f := fun v => v.dutyReg.get m)
      (fun i hi _ _ hexec => exec_dutyReg_get_of_ne hexec (ne_of_mem_of_not_mem hi honce)) h
  obtain ⟨-, rfl⟩ := execDwrite_next_iff.mp hwrite
  simpa using hreg

end Sys2Proof.Machine
end

section
/-! ## Invariants of every step (R48, R133, R145)

Each invariant is kept by every operation; the step's own move along the schedule is no part of any of them. -/

namespace Sys2Proof

/-! ### The admissible parameters (R9 to R12) -/

theorem Config.wf_iff {cfg : Config} : cfg.wf = true ↔
    12 ≤ cfg.tickW ∧ cfg.tickInit < 2 ^ cfg.tickW ∧ 1 ≤ cfg.dutyFull ∧ cfg.dutyFull < 2 ^ cfg.dutyW ∧
      ∀ m, cfg.dutyInit.get m ≤ cfg.dutyFull := by
  have hinit : (∀ m, cfg.dutyInit.get m ≤ cfg.dutyFull) ↔
      cfg.dutyInit.m0 ≤ cfg.dutyFull ∧ cfg.dutyInit.m1 ≤ cfg.dutyFull ∧
        cfg.dutyInit.m2 ≤ cfg.dutyFull ∧ cfg.dutyInit.m3 ≤ cfg.dutyFull :=
    ⟨fun h => ⟨h .m0, h .m1, h .m2, h .m3⟩, fun ⟨h0, h1, h2, h3⟩ m => by cases m <;> assumption⟩
  simp only [wf, tickWidthOk, tickInitOk, dutyFullOk, dutyWidthOk, dutyInitOk, Bool.and_eq_true,
    decide_eq_true_eq, hinit, and_assoc]

/-- The bound of R9: the tick width holds every constant of the sampler. -/
theorem Config.center_lt_of_wf {cfg : Config} (h : cfg.wf = true) : 1500 < 2 ^ cfg.tickW := by
  obtain ⟨hwidth, -⟩ := Config.wf_iff.mp h
  calc 1500 < 2 ^ 12 := by decide
    _ ≤ 2 ^ cfg.tickW := Nat.pow_le_pow_right (by decide) hwidth

theorem Config.le_dutyFull_lt_of_wf {cfg : Config} (h : cfg.wf = true) {d : Nat} (hd : d ≤ cfg.dutyFull) :
    d < 2 ^ cfg.dutyW := by
  obtain ⟨-, -, -, hfull, -⟩ := Config.wf_iff.mp h
  exact hd.trans_lt hfull

/-! ### Bounds on the entries of an element -/

theorem PerChannel.get_set_lt {x : PerChannel Nat} {v b : Nat} (h : ∀ d, x.get d < b) (hv : v < b) (c d : Channel) :
    (x.set c v).get d < b := by
  by_cases hd : d = c
  · subst hd
    rwa [PerChannel.get_set_same]
  · rw [PerChannel.get_set_other x v hd]
    exact h d

theorem PerMotor.get_set_lt {x : PerMotor Nat} {v b : Nat} (h : ∀ k, x.get k < b) (hv : v < b) (m k : Motor) :
    (x.set m v).get k < b := by
  by_cases hk : k = m
  · subst hk
    rwa [PerMotor.get_set_same]
  · rw [PerMotor.get_set_other x v hk]
    exact h k

namespace Machine

open Sys2Proof.Safety

/-- What every operation keeps, whatever the schedule, the step keeps. -/
theorem step_keeps {P : State → Prop} (schedule : ∀ (s : State) (ws : List Byte), P s → P (s.setTrace ws))
    (keeps : ∀ (i : Instr) (s t : State), P s → exec i s = .next t → P t) {s t : State} (hs : P s)
    (h : step s = .next t) : P t := by
  obtain ⟨i, rest, -, hexec⟩ := step_next_cases h
  exact keeps i _ t (schedule s rest hs) hexec

/-! ### The declared widths (R26, R48) -/

theorem tickSucc_lt (cfg : Config) (tick : Nat) : tickSucc cfg tick < 2 ^ cfg.tickW := uN_lt _ _

theorem pulseWidth_lt (cfg : Config) (rising falling : Nat) : pulseWidth cfg rising falling < 2 ^ cfg.tickW :=
  uN_lt _ _

theorem snapshot_get_lt {cfg : Config} (hwf : cfg.wf = true) {raw : PerChannel Nat}
    (hraw : ∀ c, raw.get c < 2 ^ cfg.tickW) (live : Bool) (c : Channel) :
    (snapshot live raw).get c < 2 ^ cfg.tickW := by
  cases live with
  | true => exact hraw c
  | false =>
    rw [snapshot_failsafe]
    cases c <;> exact Config.center_lt_of_wf hwf

/-- Every value an operation writes is narrowed to its element's width, or is one that fits. -/
theorem exec_keeps_widths (i : Instr) (s t : State) (hs : WidthsOk s) (h : exec i s = .next t) : WidthsOk t := by
  obtain ⟨hwf, htick, hstart, hraw, hstab, hdcmd, hreg, hact⟩ := hs
  cases i with
  | tick =>
    obtain rfl := execTick_next_iff.mp h
    exact ⟨hwf, tickSucc_lt s.cfg s.tick, hstart, hraw, hstab, hdcmd, hreg, hact⟩
  | edge c pol =>
    obtain ⟨-, rfl⟩ := execEdge_next_iff.mp h
    exact ⟨hwf, htick, hstart, hraw, hstab, hdcmd, hreg, hact⟩
  | svc c =>
    obtain ⟨-, ⟨-, rfl⟩ | ⟨-, rfl⟩⟩ := execSvc_next_cases h
    · exact ⟨hwf, htick, PerChannel.get_set_lt hstart htick c, hraw, hstab, hdcmd, hreg, hact⟩
    · exact ⟨hwf, htick, hstart, PerChannel.get_set_lt hraw (pulseWidth_lt s.cfg _ _) c, hstab, hdcmd, hreg, hact⟩
  | frame lvl =>
    obtain rfl := execFrame_next_iff.mp h
    exact ⟨hwf, htick, hstart, hraw, hstab, hdcmd, hreg, hact⟩
  | wopen =>
    obtain ⟨-, rfl⟩ := execWopen_next_iff.mp h
    exact ⟨hwf, htick, hstart, hraw, hstab, hdcmd, hreg, hact⟩
  | wclose =>
    obtain ⟨-, rfl⟩ := execWclose_next_iff.mp h
    exact ⟨hwf, htick, hstart, hraw, snapshot_get_lt hwf hraw s.live, hdcmd, hreg, hact⟩
  | conv =>
    obtain ⟨-, rfl⟩ := execConv_next_iff.mp h
    exact ⟨hwf, htick, hstart, hraw, hstab, hdcmd, hreg, hact⟩
  | mzero =>
    obtain ⟨-, rfl⟩ := execMzero_next_iff.mp h
    exact ⟨hwf, htick, hstart, hraw, hstab, hdcmd, hreg, hact⟩
  | mix =>
    obtain ⟨-, rfl⟩ := execMix_next_iff.mp h
    exact ⟨hwf, htick, hstart, hraw, hstab, hdcmd, hreg, hact⟩
  | apply =>
    have hduty : ∀ m, t.dcmd.get m < 2 ^ s.cfg.dutyW := fun m => by
      rw [execApply_dcmd_get h]
      exact Config.le_dutyFull_lt_of_wf hwf (duty_shape_le _ _)
    obtain ⟨-, rfl⟩ := execApply_next_iff.mp h
    exact ⟨hwf, htick, hstart, hraw, hstab, hduty, hreg, hact⟩
  | dwrite m =>
    obtain ⟨-, rfl⟩ := execDwrite_next_iff.mp h
    exact ⟨hwf, htick, hstart, hraw, hstab, hdcmd, PerMotor.get_set_lt hreg (hdcmd m) m, hact⟩
  | pwmb =>
    obtain rfl := execPwmb_next_iff.mp h
    exact ⟨hwf, htick, hstart, hraw, hstab, hdcmd, hreg, hreg⟩
  | emit =>
    obtain ⟨-, rfl⟩ := execEmit_next_iff.mp h
    exact ⟨hwf, htick, hstart, hraw, hstab, hdcmd, hreg, hact⟩

/-- Settles O48, operation by operation. -/
theorem stepKeepsEveryWidth : Obligations.StepKeepsEveryWidth :=
  fun _ _ => step_keeps (fun _ _ hs => hs) exec_keeps_widths

/-! ### The write mask (R43, R133) -/

theorem maskHas_maskWith (mask : BitVec 4) (m k : Motor) :
    maskHas (maskWith mask m) k = (maskHas mask k || decide (k = m)) := by
  have hbit : (1#4 <<< motorBit m).getLsbD (motorBit k) = decide (k = m) := by cases m <;> cases k <;> rfl
  rw [maskHas, maskWith, BitVec.getLsbD_or, hbit, maskHas]

@[simp] theorem maskHas_zero (m : Motor) : maskHas 0b0000#4 m = false := by cases m <;> rfl

/-- The mask is full when each motor's bit is set. -/
theorem eq_full_iff_forall_maskHas {mask : BitVec 4} : mask = 0b1111#4 ↔ ∀ m, maskHas mask m = true := by
  refine ⟨?_, fun h => ?_⟩
  · rintro rfl m
    cases m <;> rfl
  · refine BitVec.eq_of_getLsbD_eq fun k hk => ?_
    match k, hk with
    | 0, _ => exact h .m0
    | 1, _ => exact h .m1
    | 2, _ => exact h .m2
    | 3, _ => exact h .m3

theorem exists_unwritten {mask : BitVec 4} (h : mask ≠ 0b1111#4) : ∃ m, maskHas mask m = false := by
  rw [ne_eq, eq_full_iff_forall_maskHas] at h
  simpa using h

/-- What leads to WRITE: APPLY, a DWRITE, or a step of another agent in WRITE. -/
theorem exec_atWrite_cases {i : Instr} {s t : State} (h : exec i s = .next t) (hwrite : t.seq = .atWrite) :
    i = .apply ∨ s.seq = .atWrite ∧ ((∃ m, i = .dwrite m) ∨ i.agent ≠ .seq) := by
  by_cases hi : i.agent = .seq
  · cases i with
    | apply => exact .inl rfl
    | dwrite m =>
      obtain ⟨⟨hseq, -⟩, -⟩ := execDwrite_next_iff.mp h
      exact .inr ⟨hseq, .inl ⟨m, rfl⟩⟩
    | wopen => simp [execWopen_next_iff.mp h] at hwrite
    | wclose => simp [execWclose_next_iff.mp h] at hwrite
    | conv => simp [execConv_next_iff.mp h] at hwrite
    | mzero => simp [execMzero_next_iff.mp h] at hwrite
    | mix => simp [execMix_next_iff.mp h] at hwrite
    | emit => simp [execEmit_next_iff.mp h] at hwrite
    | _ => cases hi
  · obtain ⟨_, _, _, _, _, _, _, _, _, rfl⟩ := exec_of_agent_ne_seq hi h
    exact .inr ⟨hwrite, .inr hi⟩

/-- A write that fills the mask leaves WRITE. -/
theorem exec_keeps_writeOk (i : Instr) (s t : State) (hs : WriteOk s) (h : exec i s = .next t) : WriteOk t := by
  intro hwrite
  obtain rfl | ⟨hseq, ⟨m, rfl⟩ | hi⟩ := exec_atWrite_cases h hwrite
  · obtain ⟨-, rfl⟩ := execApply_next_iff.mp h
    simp
  · rintro hfull
    rw [execDwrite_seq h, if_pos hfull] at hwrite
    cases hwrite
  · obtain ⟨_, _, _, _, _, _, _, _, _, rfl⟩ := exec_of_agent_ne_seq hi h
    exact hs hseq

/-- Settles O50: only APPLY and DWRITE lead to WRITE with another mask. -/
theorem stepKeepsTheWriteMaskSound : Obligations.StepKeepsTheWriteMaskSound :=
  fun _ _ => step_keeps (fun _ _ hs => hs) exec_keeps_writeOk

/-! ### The duty scale (R30, R48) -/

/-- The registers take commands, the active duties take registers, and APPLY makes commands in scale. -/
theorem exec_keeps_duties (i : Instr) (s t : State) (hs : DutiesOk s) (h : exec i s = .next t) : DutiesOk t := by
  obtain ⟨hreg, hact, hdcmd⟩ := hs
  simp only [DutiesOk, exec_cfg h]
  refine ⟨fun m => ?_, fun m => ?_, fun hwrite m => ?_⟩
  · by_cases hi : i = .dwrite m
    · subst hi
      obtain ⟨⟨hseq, -⟩, rfl⟩ := execDwrite_next_iff.mp h
      simpa using hdcmd hseq m
    · rw [exec_dutyReg_get_of_ne h hi]
      exact hreg m
  · by_cases hi : i = .pwmb
    · subst hi
      obtain rfl := execPwmb_next_iff.mp h
      exact hreg m
    · rw [exec_dutyAct_of_ne h hi]
      exact hact m
  · by_cases hi : i = .apply
    · subst hi
      rw [execApply_dcmd_get h]
      exact duty_shape_le _ _
    · obtain ⟨hseq, -⟩ := (exec_atWrite_cases h hwrite).resolve_left hi
      rw [exec_dcmd_of_ne h hi]
      exact hdcmd hseq m

/-- Settles O49, element by element. -/
theorem stepKeepsDutiesInScale : Obligations.StepKeepsDutiesInScale :=
  fun _ _ => step_keeps (fun _ _ hs => hs) exec_keeps_duties

/-! ### The results of the cycle so far (R145) -/

section
variable {s : State}

theorem cycleOk_of_atOpen (h : s.seq = .atOpen) : CycleOk s := by simp only [CycleOk, h]

theorem cycleOk_of_atWait (h : s.seq = .atWait) : CycleOk s := by simp only [CycleOk, h]

theorem cycleOk_of_atConvert (h : s.seq = .atConvert) : CycleOk s := by simp only [CycleOk, h]

theorem cycleOk_iff_of_atZero (h : s.seq = .atZero) : CycleOk s ↔ PercentsOk s := by simp only [CycleOk, h]

theorem cycleOk_iff_of_atMix (h : s.seq = .atMix) : CycleOk s ↔ PercentsOk s ∧ ∀ m, s.motor.get m = 0#16 := by
  simp only [CycleOk, h]

theorem cycleOk_iff_of_atApply (h : s.seq = .atApply) : CycleOk s ↔ PercentsOk s ∧ MotorsOk s := by
  simp only [CycleOk, h]

theorem cycleOk_iff_of_atWrite (h : s.seq = .atWrite) : CycleOk s ↔
    PercentsOk s ∧ MotorsOk s ∧ CommandsOk s ∧ s.wmask ≠ 0b1111#4 ∧
      ∀ m, maskHas s.wmask m = true → s.dutyReg.get m = s.dcmd.get m := by
  simp only [CycleOk, h]

theorem cycleOk_iff_of_atEmit (h : s.seq = .atEmit) : CycleOk s ↔
    PercentsOk s ∧ MotorsOk s ∧ CommandsOk s ∧ s.wmask = 0b1111#4 ∧ s.dutyReg = s.dcmd := by
  simp only [CycleOk, h]

/-- CONV makes the percents those of the widths. -/
theorem percentsOk_of_execConv {t : State} (h : exec .conv s = .next t) : PercentsOk t := by
  obtain ⟨-, rfl⟩ := execConv_next_iff.mp h
  intro c
  simp

theorem motor_eq_zero_of_forall_get {motor : PerMotor (BitVec 16)} (h : ∀ m, motor.get m = 0#16) :
    motor = ⟨0#16, 0#16, 0#16, 0#16⟩ :=
  PerMotor.ext_get fun m => (h m).trans (get_zeroMotors m).symm

/-- MIX after MZERO makes the motor percents the mix of the percents of the widths, in the frame of its moment. -/
theorem execMix_motor_get {t : State} (hpercents : PercentsOk s) (hzero : ∀ m, s.motor.get m = 0#16)
    (h : exec .mix s = .next t) (m : Motor) : (t.motor.get m).toInt =
      (mixFrame s.framePin ⟨0, 0, 0, 0⟩ (percent s.stabW.pitch) (percent s.stabW.roll)).get m := by
  obtain ⟨-, rfl⟩ := execMix_next_iff.mp h
  have hp : s.pct.pitch.toInt = percent s.stabW.pitch := hpercents .pitch
  have hr : s.pct.roll.toInt = percent s.stabW.roll := hpercents .roll
  rw [← hp, ← hr]
  exact mixedMotors_get_toInt_of_zero (motor_eq_zero_of_forall_get hzero) m

/-- After DWRITE every register whose bit is set holds its command, if that was so before. -/
theorem execDwrite_dutyReg_get {t : State} {m : Motor}
    (hregs : ∀ k, maskHas s.wmask k = true → s.dutyReg.get k = s.dcmd.get k) (h : exec (.dwrite m) s = .next t)
    (k : Motor) (hk : maskHas t.wmask k = true) : t.dutyReg.get k = t.dcmd.get k := by
  obtain ⟨-, rfl⟩ := execDwrite_next_iff.mp h
  simp only [State.setSeq_wmask, State.setWmask_wmask, State.setSeq_dutyReg, State.setWmask_dutyReg,
    State.dutyWrite_dutyReg, State.setSeq_dcmd, State.setWmask_dcmd, State.dutyWrite_dcmd] at hk ⊢
  by_cases hkm : k = m
  · subst hkm
    exact PerMotor.get_set_same _ _ _
  · rw [PerMotor.get_set_other _ _ hkm]
    rw [maskHas_maskWith] at hk
    exact hregs k (by simpa [hkm] using hk)

/-- DWRITE adds its register to the written ones; the last of the four makes the registers the commands. -/
theorem execDwrite_keeps_cycleOk {t : State} {m : Motor} (hs : CycleOk s) (h : exec (.dwrite m) s = .next t) :
    CycleOk t := by
  have hnext := execDwrite_seq h
  obtain ⟨⟨hseq, -⟩, ht⟩ := execDwrite_next_iff.mp h
  obtain ⟨hpercents, hmotors, hcommands, -, hregs⟩ := (cycleOk_iff_of_atWrite hseq).mp hs
  have hregs' := execDwrite_dutyReg_get hregs h
  obtain ⟨hpercents', hmotors', hcommands'⟩ : PercentsOk t ∧ MotorsOk t ∧ CommandsOk t := by
    rw [ht]
    exact ⟨hpercents, hmotors, hcommands⟩
  by_cases hfull : t.wmask = 0b1111#4
  · rw [if_pos hfull] at hnext
    exact (cycleOk_iff_of_atEmit hnext).mpr ⟨hpercents', hmotors', hcommands', hfull,
      PerMotor.ext_get fun k => hregs' k (eq_full_iff_forall_maskHas.mp hfull k)⟩
  · rw [if_neg hfull] at hnext
    exact (cycleOk_iff_of_atWrite hnext).mpr ⟨hpercents', hmotors', hcommands', hfull, hregs'⟩

end

/-- Each SEQ operation adds its own line of R145 to what held before it; ENV and CAP write none of the elements. -/
theorem exec_keeps_cycleOk (i : Instr) (s t : State) (hs : CycleOk s) (h : exec i s = .next t) : CycleOk t := by
  by_cases hi : i.agent = .seq
  · cases i with
    | wopen =>
      obtain ⟨-, rfl⟩ := execWopen_next_iff.mp h
      exact cycleOk_of_atWait rfl
    | wclose =>
      obtain ⟨-, rfl⟩ := execWclose_next_iff.mp h
      exact cycleOk_of_atConvert rfl
    | conv =>
      have hpercents := percentsOk_of_execConv h
      obtain ⟨-, rfl⟩ := execConv_next_iff.mp h
      exact (cycleOk_iff_of_atZero rfl).mpr hpercents
    | mzero =>
      obtain ⟨hseq, rfl⟩ := execMzero_next_iff.mp h
      have hpercents := (cycleOk_iff_of_atZero hseq).mp hs
      exact (cycleOk_iff_of_atMix rfl).mpr ⟨hpercents, get_zeroMotors⟩
    | mix =>
      have hmotors := execMix_motor_get (h := h)
      obtain ⟨hseq, rfl⟩ := execMix_next_iff.mp h
      obtain ⟨hpercents, hzero⟩ := (cycleOk_iff_of_atMix hseq).mp hs
      exact (cycleOk_iff_of_atApply rfl).mpr ⟨hpercents, s.framePin, hmotors hpercents hzero⟩
    | apply =>
      have hcommands := execApply_dcmd_get h
      obtain ⟨hseq, rfl⟩ := execApply_next_iff.mp h
      obtain ⟨hpercents, hmotors⟩ := (cycleOk_iff_of_atApply hseq).mp hs
      exact (cycleOk_iff_of_atWrite rfl).mpr ⟨hpercents, hmotors, hcommands, by simp, fun m hm => by simp at hm⟩
    | dwrite m => exact execDwrite_keeps_cycleOk hs h
    | emit =>
      obtain ⟨-, rfl⟩ := execEmit_next_iff.mp h
      exact cycleOk_of_atOpen rfl
    | _ => cases hi
  · obtain ⟨_, _, _, _, _, _, _, _, _, rfl⟩ := exec_of_agent_ne_seq hi h
    exact hs

/-- Settles O51, operation by operation along the cycle. -/
theorem stepKeepsTheCycleResults : Obligations.StepKeepsTheCycleResults :=
  fun _ _ => step_keeps (fun _ _ hs => hs) exec_keeps_cycleOk

end Machine

end Sys2Proof
end

section
/-! ## Pulse capture over runs (R36, R60, R86, R90, R92, R152)

The counter over a run, the elements of one channel, and the pending condition until its service. -/

namespace Sys2Proof

theorem PerChannel.set_of_get_eq {α : Type} {x : PerChannel α} {c : Channel} {v : α}
    (h : x.get c = v) : x.set c v = x := by
  rw [← h, PerChannel.set_get_self]

namespace Machine

open Sys2Proof.Safety

/-! ### The elements of one channel (R92) -/

/-- Settles O5: an edge or a service of the other channel writes the other entry, and the two services write different
entries. -/
theorem channelsAreIndependent : Obligations.ChannelsAreIndependent := by
  refine ⟨fun c i s t h hsvc hedge => ?_, fun s hpend => ?_⟩
  · cases i with
    | edge d pol =>
      have hd : c ≠ d := by
        rintro rfl
        exact hedge pol rfl
      obtain ⟨-, rfl⟩ := execEdge_next_iff.mp h
      simp [PerChannel.get_set_other _ _ hd]
    | svc d =>
      have hd : c ≠ d := by
        rintro rfl
        exact hsvc rfl
      obtain ⟨-, ⟨-, rfl⟩ | ⟨-, rfl⟩⟩ := execSvc_next_cases h
      · simp [PerChannel.get_set_other _ _ hd]
      · simp [PerChannel.get_set_other _ _ hd]
    | tick => simp [execTick_next_iff.mp h]
    | frame lvl => simp [execFrame_next_iff.mp h]
    | pwmb => simp [execPwmb_next_iff.mp h]
    | _ =>
      obtain ⟨_, _, _, _, _, _, _, _, _, rfl⟩ := exec_of_agent_eq_seq rfl h
      exact ⟨rfl, rfl, rfl, rfl⟩
  · have hpitch : s.pend.get .pitch = true := by rw [hpend]; rfl
    have hroll : s.pend.get .roll = true := by rw [hpend]; rfl
    obtain ⟨stamp, width, phase, servePitch⟩ := execSvc_of_agree hpitch
    obtain ⟨stamp', width', phase', serveRoll⟩ := execSvc_of_agree hroll
    exact ⟨_, perform_cons_next_iff.mpr ⟨_, servePitch s rfl rfl rfl rfl rfl rfl,
        perform_cons_next_iff.mpr ⟨_, serveRoll _ rfl rfl rfl rfl rfl rfl, rfl⟩⟩,
      perform_cons_next_iff.mpr ⟨_, serveRoll s rfl rfl rfl rfl rfl rfl,
        perform_cons_next_iff.mpr ⟨_, servePitch _ rfl rfl rfl rfl rfl rfl, rfl⟩⟩⟩

/-! ### The pending condition (R36, R60) -/

theorem execSvc_pend {c : Channel} {s t : State} (h : exec (.svc c) s = .next t) : t.pend.get c = false := by
  obtain ⟨-, rfl⟩ := execSvc_next_iff.mp h
  simp

/-- Only its own service clears a pending condition. -/
theorem exec_keeps_pend {c : Channel} {i : Instr} {s t : State} (hi : i ≠ .svc c) (hpend : s.pend.get c = true)
    (h : exec i s = .next t) : t.pend.get c = true := by
  obtain ⟨-, -, -, -, -, -, hwriters, -⟩ := onlyItsWritersChangeAnElement i s t h
  by_contra hne
  obtain ⟨hset, -⟩ | ⟨-, hserved⟩ := hwriters c (fun heq => hne (heq.trans hpend))
  · exact hne hset
  · exact hi hserved

/-- Settles O6: the enabling condition of SVC, its last write, and the other operations by induction on the run. -/
theorem pendingConditionWaitsForItsService : Obligations.PendingConditionWaitsForItsService := by
  refine ⟨fun c s => enabled_svc_iff, fun c s t h => execSvc_pend h, fun c s t between hpend hother h => ?_⟩
  rw [enabled_svc_iff]
  exact perform_keeps (P := fun u => u.pend.get c = true)
    (fun i hi _ _ hu hexec => exec_keeps_pend (ne_of_mem_of_not_mem hi hother) hu hexec) hpend h

/-- While its service is not taken, a pending condition stays through an infinite run. -/
theorem pend_of_not_taken {ops : Nat → Instr} {states : Nat → State} (hrun : InfiniteRun ops states) {c : Channel}
    {n : Nat} (hpend : (states n).pend.get c = true) {k : Nat} (hk : n ≤ k)
    (hnot : ∀ j, n ≤ j → j < k → ops j ≠ .svc c) : (states k).pend.get c = true := by
  induction k, hk using Nat.le_induction with
  | base => exact hpend
  | succ k hk ih =>
    have hkept := ih fun j hj hjk => hnot j hj (by omega)
    exact exec_keeps_pend (hnot k hk (by omega)) hkept (hrun k)

/-- Settles O57: were the service never taken it would stay enabled for ever, against the fairness to it; at the first
point it is taken, it was pending all along. -/
theorem fairRunsTakeEveryPendingService : Obligations.FairRunsTakeEveryPendingService := by
  intro ops states c n hrun hfair hpend
  have htaken : ∃ k, n ≤ k ∧ ops k = .svc c := by
    by_contra hnever
    have hnot : ∀ j, n ≤ j → ops j ≠ .svc c := fun j hj htake => hnever ⟨j, hj, htake⟩
    obtain ⟨k, hk, htake | hdisabled⟩ := hfair n
    · exact hnot k hk htake
    · exact hdisabled _ rfl (enabled_svc_iff.mpr (pend_of_not_taken hrun hpend hk fun j hj _ => hnot j hj))
  classical
  obtain ⟨hk, htake⟩ := Nat.find_spec htaken
  refine ⟨Nat.find htaken, hk, htake, fun j hj hjk => pend_of_not_taken hrun hpend hj fun l hl hlj htake' => ?_⟩
  exact Nat.find_min htaken (by omega) ⟨hl, htake'⟩

/-! ### The counter over a run (R87, R90) -/

theorem perform_tick {ops : List Instr} {s t : State} (htick : s.tick < 2 ^ s.cfg.tickW)
    (h : perform ops s = .next t) : t.tick = (s.tick + ops.count .tick) % 2 ^ s.cfg.tickW := by
  induction ops generalizing s with
  | nil =>
    obtain rfl : s = t := by simpa using h
    simp [Nat.mod_eq_of_lt htick]
  | cons i ops ih =>
    obtain ⟨u, hu, hrest⟩ := perform_cons_next_iff.mp h
    have hcfg := exec_cfg hu
    by_cases hi : i = .tick
    · subst hi
      obtain rfl := execTick_next_iff.mp hu
      rw [ih (tickSucc_lt s.cfg s.tick) hrest, List.count_cons_self, State.setTick_tick, State.setTick_cfg,
        tickSucc_eq, Nat.mod_add_mod]
      ring_nf
    · have hsame := exec_tick_of_ne hu hi
      rw [ih (by rwa [hsame, hcfg]) hrest, hsame, hcfg, List.count_cons_of_ne hi]

/-- The wraparound-safe width of two timestamps is the number of ticks between them, modulo the counter's range. -/
theorem pulseWidth_of_ticks (cfg : Config) (start n : Nat) :
    pulseWidth cfg start ((start + n) % 2 ^ cfg.tickW) = n % 2 ^ cfg.tickW := by
  have hmod : ((((start + n) % 2 ^ cfg.tickW : Nat) : Int) - (start : Int)) % ((2 ^ cfg.tickW : Nat) : Int) =
      (n : Int) % ((2 ^ cfg.tickW : Nat) : Int) := by
    rw [Int.natCast_emod, Int.emod_sub_emod, Int.natCast_add, add_sub_cancel_left]
  rw [pulseWidth, uN, hmod, ← uN, uN_natCast]

/-- The width in both cases of the wrap (R90). -/
theorem pulseWidth_of_lt {cfg : Config} {rising falling : Nat} (hr : rising < 2 ^ cfg.tickW)
    (hf : falling < 2 ^ cfg.tickW) : pulseWidth cfg rising falling =
      if rising ≤ falling then falling - rising else falling + 2 ^ cfg.tickW - rising := by
  split
  case isTrue hle =>
    have h := pulseWidth_of_ticks cfg rising (falling - rising)
    rwa [Nat.add_sub_cancel' hle, Nat.mod_eq_of_lt hf, Nat.mod_eq_of_lt (by omega)] at h
  case isFalse hwrap =>
    have h := pulseWidth_of_ticks cfg rising (falling + 2 ^ cfg.tickW - rising)
    rwa [Nat.add_sub_cancel' (by omega), Nat.add_mod_right, Nat.mod_eq_of_lt hf, Nat.mod_eq_of_lt (by omega)] at h

/-- Without a service of its channel a stamp and the phase stay. -/
theorem exec_keeps_stamp {c : Channel} {i : Instr} {s t : State} (hi : i ≠ .svc c) (h : exec i s = .next t) :
    t.phase.get c = s.phase.get c ∧ t.startTs.get c = s.startTs.get c := by
  by_cases hedge : ∃ pol, i = .edge c pol
  · obtain ⟨pol, rfl⟩ := hedge
    obtain ⟨-, rfl⟩ := execEdge_next_iff.mp h
    simp
  · obtain ⟨frame, -⟩ := channelsAreIndependent
    obtain ⟨hphase, hstart, -⟩ := frame c i s t h hi fun pol heq => hedge ⟨pol, heq⟩
    exact ⟨hphase, hstart⟩

/-- Settles O4: the two cases of the wrap; then, over the run between the services, the counter moves with the ticks
while the stamp and the phase stay. -/
theorem widthIsTheTickCountBetweenServices : Obligations.WidthIsTheTickCountBetweenServices := by
  refine ⟨fun c s hpend hphase htick hstart => ?_, fun c s t u v between hphase htick hrise hother hrun hfall => ?_⟩
  · refine ⟨_, execSvc_falling hpend hphase, ?_⟩
    rw [PerChannel.get_set_same, pulseWidth_of_lt hstart htick]
  · obtain ⟨hpend, -⟩ := execSvc_next_cases hrise
    obtain rfl : _ = t := by simpa using (execSvc_rising hpend hphase).symm.trans hrise
    have hcount := perform_tick (by exact htick) hrun
    have hcfg := perform_cfg hrun
    have hkept : u.phase.get c = .awaitingFalling ∧ u.startTs.get c = s.tick := by
      refine perform_keeps (P := fun w => w.phase.get c = .awaitingFalling ∧ w.startTs.get c = s.tick)
        (fun i hi w w' hw hexec => ?_) ⟨PerChannel.get_set_same _ _ _, PerChannel.get_set_same _ _ _⟩ hrun
      obtain ⟨hphase', hstart'⟩ := exec_keeps_stamp (ne_of_mem_of_not_mem hi hother) hexec
      rwa [hphase', hstart']
    obtain ⟨hfalling, hstamp⟩ := hkept
    obtain ⟨hpend', -⟩ := execSvc_next_cases hfall
    obtain rfl : _ = v := by simpa using (execSvc_falling hpend' hfalling).symm.trans hfall
    simp only [PerChannel.get_set_same, hstamp, hcount, hcfg, pulseWidth_of_ticks]

/-! ### The pseudo-operations (R86) -/

theorem perform_ticks {s : State} (htick : s.tick < 2 ^ s.cfg.tickW) (n : Nat) :
    perform (ticks n) s = .next { s with tick := (s.tick + n) % 2 ^ s.cfg.tickW } := by
  induction n generalizing s with
  | zero => simp [ticks, Nat.mod_eq_of_lt htick]
  | succ n ih =>
    have hstep : exec .tick s = .next (s.setTick (tickSucc s.cfg s.tick)) := execTick_next_iff.mpr rfl
    have hsum : (tickSucc s.cfg s.tick + n) % 2 ^ s.cfg.tickW = (s.tick + (n + 1)) % 2 ^ s.cfg.tickW := by
      rw [tickSucc_eq, Nat.mod_add_mod, Nat.add_assoc, Nat.add_comm 1]
    rw [ticks, List.replicate_succ, perform_cons_of_next hstep, ← ticks, ih (tickSucc_lt s.cfg s.tick), ← hsum]
    rfl

/-- An edge of the armed polarity, and its service at once, from its own start: the pin has moved, and no condition is
left pending. -/
theorem perform_armed_edge_svc {c : Channel} {pol : Polarity} {s t : State} (hpin : s.rcLvl.get c = levelBefore pol)
    (harmed : pol = armedPolarity (s.phase.get c))
    (hserve : exec (.svc c) { s with rcLvl := s.rcLvl.set c (levelAfter pol), pend := s.pend.set c true } = .next t) :
    perform [.edge c pol, .svc c] s = .next t := by
  have hedge := execEdge_of_levelBefore hpin
  rw [if_pos harmed] at hedge
  rw [perform_cons_of_next hedge, perform_cons_of_next hserve, perform_nil]

/-- The start of a pulse: its rise and the service that stamps the tick. -/
theorem perform_rise_svc {c : Channel} {s : State} (hpin : s.rcLvl.get c = .low)
    (hphase : s.phase.get c = .awaitingRising) :
    perform [.edge c .rise, .svc c] s = .next { s with
      rcLvl := s.rcLvl.set c .high
      startTs := s.startTs.set c s.tick
      phase := s.phase.set c .awaitingFalling
      live := true
      pend := s.pend.set c false } := by
  refine perform_armed_edge_svc hpin (by rw [hphase]; rfl) ?_
  refine (execSvc_rising (PerChannel.get_set_same _ _ _) (by exact hphase)).trans ?_
  rw [PerChannel.set_set]
  rfl

/-- The end of a pulse: its fall and the service that measures the width. -/
theorem perform_fall_svc {c : Channel} {s : State} (hpin : s.rcLvl.get c = .high)
    (hphase : s.phase.get c = .awaitingFalling) :
    perform [.edge c .fall, .svc c] s = .next { s with
      rcLvl := s.rcLvl.set c .low
      rawW := s.rawW.set c (pulseWidth s.cfg (s.startTs.get c) s.tick)
      phase := s.phase.set c .awaitingRising
      live := true
      pend := s.pend.set c false } := by
  refine perform_armed_edge_svc hpin (by rw [hphase]; rfl) ?_
  refine (execSvc_falling (PerChannel.get_set_same _ _ _) (by exact hphase)).trans ?_
  rw [PerChannel.set_set]
  rfl

/-- A whole pulse on a low pin whose channel is armed for the rise: the rise and its service stamp the tick, the fall
and its service measure the ticks between, and the pin, the phase and the condition end as they began. -/
theorem perform_pulse {c : Channel} {s : State} (n : Nat) (htick : s.tick < 2 ^ s.cfg.tickW)
    (hpin : s.rcLvl.get c = .low) (hphase : s.phase.get c = .awaitingRising) (hpend : s.pend.get c = false) :
    perform (pulse c n) s = .next { s with
      tick := (s.tick + n) % 2 ^ s.cfg.tickW
      startTs := s.startTs.set c s.tick
      rawW := s.rawW.set c (n % 2 ^ s.cfg.tickW)
      live := true } := by
  refine perform_append_next_iff.mpr ⟨_, perform_append_next_iff.mpr
    ⟨_, perform_rise_svc hpin hphase, perform_ticks (by exact htick) n⟩, ?_⟩
  refine (perform_fall_svc (PerChannel.get_set_same _ _ _) (PerChannel.get_set_same _ _ _)).trans ?_
  simp only [PerChannel.get_set_same, PerChannel.set_set, pulseWidth_of_ticks, PerChannel.set_of_get_eq hpin,
    PerChannel.set_of_get_eq hphase, PerChannel.set_of_get_eq hpend]

/-- Settles O41: the expansions, and PULSE from its first edge to its last service. -/
theorem pulseMeasuresItsTicks : Obligations.PulseMeasuresItsTicks :=
  ⟨fun _ => rfl, fun _ _ => rfl, rfl, fun _ n _ => perform_pulse n⟩

end Machine

end Sys2Proof
end

section
/-! ## Telemetry lengths (R143)

A numeral has one digit more than the decimal logarithm of its number; items and lines are sums of numerals. -/

namespace Sys2Proof.Machine

open Sys2Proof.Safety

/-! ### The length of a number -/

theorem length_dec (n : Nat) : (dec n).length = Nat.log 10 n + 1 := by
  induction n using dec_induction with
  | short n h => rw [dec_of_lt_ten h, Nat.log_of_lt h, List.length_singleton]
  | long n h ih =>
    rw [dec_of_ten_le h, List.length_append, ih, Nat.log_of_one_lt_of_le (by decide) h, List.length_singleton]

theorem length_dec_mono {m n : Nat} (h : m ≤ n) : (dec m).length ≤ (dec n).length := by
  rw [length_dec, length_dec]
  exact Nat.add_le_add_right (Nat.log_mono_right h) 1

theorem length_dec_pos (n : Nat) : 1 ≤ (dec n).length := by
  rw [length_dec]
  omega

theorem length_dec_eq {n k : Nat} (lo : 10 ^ k ≤ n) (hi : n < 10 ^ (k + 1)) : (dec n).length = k + 1 := by
  rw [length_dec, Nat.log_eq_of_pow_le_of_lt_pow lo hi]

theorem length_dec_le {n k : Nat} (h : n < 10 ^ (k + 1)) : (dec n).length ≤ k + 1 := by
  rw [length_dec]
  exact Nat.add_le_add_right (Nat.lt_succ_iff.mp (Nat.log_lt_of_lt_pow' (by omega) h)) 1

/-- A percent is written with a sign at most, and at most three digits. -/
theorem length_sdec_percent (w : Nat) : 1 ≤ (sdec (percent w)).length ∧ (sdec (percent w)).length ≤ 4 := by
  obtain ⟨lo, hi⟩ := percent_bounds w
  have hpos := length_dec_pos (percent w).natAbs
  have hlen : (dec (percent w).natAbs).length ≤ 2 + 1 := length_dec_le (by omega)
  rcases lt_or_ge (percent w) 0 with hneg | hnonneg
  · rw [sdec_of_neg hneg, List.length_cons]
    omega
  · rw [sdec_of_nonneg hnonneg]
    omega

/-! ### The length of an item -/

theorem length_tlmItem (w : Nat) (p : Int) : (tlmItem w p).length = (dec w).length + (sdec p).length + 2 := by
  simp only [tlmItem, List.length_append, List.length_singleton]
  omega

theorem four_le_length_tlmItem (w : Nat) : 4 ≤ (tlmItem w (percent w)).length := by
  obtain ⟨hsdec, -⟩ := length_sdec_percent w
  have hdec := length_dec_pos w
  rw [length_tlmItem]
  omega

/-- An invalid width has the one-digit percent 0. -/
theorem length_tlmItem_of_invalid {w : Nat} (h : w ≤ 900 ∨ 2100 ≤ w) :
    (tlmItem w (percent w)).length = (dec w).length + 3 := by
  have hzero : (sdec 0).length = 1 := rfl
  rw [length_tlmItem, percent_of_invalid h, hzero]

/-- A valid width has at most four digits, and its percent four bytes. -/
theorem length_tlmItem_of_valid {w : Nat} (hi : w < 2100) : (tlmItem w (percent w)).length ≤ 10 := by
  obtain ⟨-, hsdec⟩ := length_sdec_percent w
  have hdec : (dec w).length ≤ 3 + 1 := length_dec_le (by omega)
  rw [length_tlmItem]
  omega

theorem length_tlmItem_le {W w : Nat} (hw : w < 2 ^ W) :
    (tlmItem w (percent w)).length ≤ max ((dec (2 ^ W - 1)).length + 3) 10 := by
  by_cases hinvalid : w ≤ 900 ∨ 2100 ≤ w
  · have hmono := length_dec_mono (m := w) (n := 2 ^ W - 1) (by omega)
    rw [length_tlmItem_of_invalid hinvalid]
    omega
  · exact (length_tlmItem_of_valid (by omega)).trans (le_max_right _ _)

theorem length_tlmItem_max {W : Nat} (hW : 12 ≤ W) :
    (tlmItem (2 ^ W - 1) (percent (2 ^ W - 1))).length = (dec (2 ^ W - 1)).length + 3 := by
  have hpow : 2 ^ 12 ≤ 2 ^ W := Nat.pow_le_pow_right (by decide) hW
  exact length_tlmItem_of_invalid (.inr (by omega))

/-! ### The length of a line -/

theorem length_newlineBytes (n : Newline) : (newlineBytes n).length = if n = .lf then 1 else 2 := by
  cases n <;> rfl

theorem length_tlmLine (cfg : Config) (stab : PerChannel Nat) (pct : PerChannel (BitVec 8)) :
    (tlmLine cfg stab pct).length = (tlmItem stab.pitch pct.pitch.toInt).length +
      (tlmItem stab.roll pct.roll.toInt).length + if cfg.newline = .lf then 1 else 2 := by
  simp only [tlmLine, List.length_append, length_newlineBytes]

/-- Both items of a line whose percents are those of its widths. -/
theorem length_tlm_of_execEmit {s t : State} (hpercents : PercentsOk s) (hline : s.cfg.newline = .lf)
    (h : exec .emit s = .next t) : t.tlm.length = s.tlm.length +
      ((tlmItem s.stabW.pitch (percent s.stabW.pitch)).length +
        (tlmItem s.stabW.roll (percent s.stabW.roll)).length + 1) := by
  have hp : s.pct.pitch.toInt = percent s.stabW.pitch := hpercents .pitch
  have hr : s.pct.roll.toInt = percent s.stabW.roll := hpercents .roll
  rw [execEmit_tlm h, List.length_append, length_tlmLine, if_pos hline, hp, hr]

/-- The bounds of a line follow from those of its items. -/
theorem length_tlm_bounds {s t : State} (hwidths : WidthsOk s) (hpercents : PercentsOk s) (hline : s.cfg.newline = .lf)
    (h : exec .emit s = .next t) : s.tlm.length + 9 ≤ t.tlm.length ∧
      t.tlm.length ≤ s.tlm.length + (2 * max ((dec (2 ^ s.cfg.tickW - 1)).length + 3) 10 + 1) := by
  obtain ⟨-, -, -, -, hstab, -⟩ := hwidths
  have hp : s.stabW.pitch < 2 ^ s.cfg.tickW := hstab .pitch
  have hr : s.stabW.roll < 2 ^ s.cfg.tickW := hstab .roll
  have hple := length_tlmItem_le hp
  have hrle := length_tlmItem_le hr
  have hpge := four_le_length_tlmItem s.stabW.pitch
  have hrge := four_le_length_tlmItem s.stabW.roll
  rw [length_tlm_of_execEmit hpercents hline h]
  omega

/-- Settles O27: the line as a sum of its parts, and the bounds of a numeral and of a percent's numeral. -/
theorem telemetryLineLength : Obligations.TelemetryLineLength := by
  refine ⟨fun s t h => ?_, fun W w _ hw => ⟨four_le_length_tlmItem w, length_tlmItem_le hw⟩,
    fun W => length_tlmItem_max, ?_, ?_, fun s t hwidths hpercents hline h => ⟨fun hW => ?_, fun hW => ?_⟩⟩
  · rw [execEmit_tlm h, List.length_append, length_tlmLine, length_tlmItem, length_tlmItem]
    split <;> omega
  · have hdec : (dec 1002).length = 3 + 1 := length_dec_eq (by decide) (by decide)
    have hsdec : (sdec (percent 1002)).length = 4 := by decide
    rw [length_tlmItem, hdec, hsdec]
  · rw [length_tlmItem_of_invalid (by decide)]
    rfl
  · have hdec : (dec (2 ^ 16 - 1)).length = 4 + 1 := length_dec_eq (by decide) (by decide)
    have bounds := length_tlm_bounds hwidths hpercents hline h
    rwa [hW, hdec] at bounds
  · have hdec : (dec (2 ^ 32 - 1)).length = 9 + 1 := length_dec_eq (by decide) (by decide)
    obtain ⟨-, hle⟩ := length_tlm_bounds hwidths hpercents hline h
    rwa [hW, hdec] at hle

end Sys2Proof.Machine
end

section
/-! ## The cycle (R59, R108, R133 to R137, R145)

The sequencer's steps from one place of the cycle to the next, alone and among the steps of ENV and CAP. -/

namespace Sys2Proof.Machine

open Sys2Proof.Safety

/-! ### Among the steps of ENV and CAP -/

theorem exec_seq_of_agent_ne_seq {i : Instr} {s t : State} (hi : i.agent ≠ .seq) (h : exec i s = .next t) :
    t.seq = s.seq := by
  obtain ⟨_, _, _, _, _, _, _, _, _, rfl⟩ := exec_of_agent_ne_seq hi h
  rfl

/-- Only WOPEN clears `LIVE`. -/
theorem exec_keeps_live {i : Instr} {s t : State} (hi : i ≠ .wopen) (hlive : s.live = true)
    (h : exec i s = .next t) : t.live = true := by
  obtain ⟨-, -, -, -, -, hwriters, -⟩ := onlyItsWritersChangeAnElement i s t h
  by_contra hne
  obtain ⟨hset, -⟩ | ⟨-, hopen⟩ := hwriters (fun heq => hne (heq.trans hlive))
  · exact hne hset
  · exact hi hopen

/-- Only a service sets `LIVE`. -/
theorem exec_keeps_not_live {i : Instr} {s t : State} (hi : i.agent ≠ .cap) (hlive : s.live = false)
    (h : exec i s = .next t) : t.live = false := by
  obtain ⟨-, -, -, -, -, hwriters, -⟩ := onlyItsWritersChangeAnElement i s t h
  by_contra hne
  obtain ⟨-, c, rfl⟩ | ⟨hclear, -⟩ := hwriters (fun heq => hne (heq.trans hlive))
  · exact hi rfl
  · exact hne hclear

/-- Settles O12: `SEQ` and `LIVE` stay among the steps of ENV and CAP, and WCLOSE takes the raw widths of its own
state. -/
theorem snapshotAfterLaterServicesCopiesTheirWidths : Obligations.SnapshotAfterLaterServicesCopiesTheirWidths := by
  intro s t between hwait hlive hothers h
  have hseq : t.seq = s.seq := perform_frame (fun i hi _ _ hexec => exec_seq_of_agent_ne_seq (hothers i hi) hexec) h
  have hlive' : t.live = true := by
    refine perform_keeps (P := fun u => u.live = true) (fun i hi u v hu hexec => exec_keeps_live ?_ hu hexec) hlive h
    rintro rfl
    exact hothers _ hi rfl
  refine ⟨hlive', ?_⟩
  rw [execWclose_of_atWait (hseq.trans hwait), hlive', snapshot_live]

/-! ### The sequencer alone -/

theorem perform_wclose_conv {s : State} (hwait : s.seq = .atWait) :
    perform [.wclose, .conv] s = .next { s with
      stabW := snapshot s.live s.rawW
      pct := (snapshot s.live s.rawW).map fun w => storePct (percent w)
      seq := .atZero } := by
  rw [perform_cons_of_next (execWclose_of_atWait hwait), perform_cons_of_next (execConv_of_atConvert rfl), perform_nil]

/-- The motor percents that MZERO and MIX leave. -/
def freshMotors (s : State) : PerMotor (BitVec 16) := mixedMotors (s.setMotor ⟨0#16, 0#16, 0#16, 0#16⟩)

theorem perform_mzero_mix_apply {s : State} (hzero : s.seq = .atZero) :
    perform [.mzero, .mix, .apply] s = .next { s with
      motor := freshMotors s
      dcmd := (freshMotors s).map fun v => duty s.cfg (shape v.toInt)
      wmask := 0b0000#4
      seq := .atWrite } := by
  rw [perform_cons_of_next (execMzero_next_iff.mpr ⟨hzero, rfl⟩), perform_cons_of_next (execMix_of_atMix rfl),
    perform_cons_of_next (execApply_of_atApply rfl), perform_nil]
  rfl

theorem freshMotors_of_center {s : State} (h : s.pct = ⟨0#8, 0#8⟩) : freshMotors s = ⟨0#16, 0#16, 0#16, 0#16⟩ :=
  mixedMotors_of_center rfl (by rw [State.setMotor_pct, h]; rfl) (by rw [State.setMotor_pct, h]; rfl)

theorem percents_of_failsafe : (PerChannel.mk 1500 1500).map (fun w => storePct (percent w)) = ⟨0#8, 0#8⟩ := by
  decide

theorem duties_of_zero_motors (cfg : Config) :
    (PerMotor.mk 0#16 0#16 0#16 0#16).map (fun v => duty cfg (shape v.toInt)) = ⟨0, 0, 0, 0⟩ := by
  have hshape : shape (0#16).toInt = 0 := shape_of_le_four (by decide)
  simp only [PerMotor.map, hshape, duty_zero]

/-- Settles O13: without a service `LIVE` stays cleared, the failsafe widths have the percent 0, and a centred stick
the motor percent 0, in either frame. -/
theorem signalLossGivesZeroDuties : Obligations.SignalLossGivesZeroDuties := by
  intro s t between hopen henv h
  obtain ⟨w, hw, hrun⟩ := perform_cons_next_iff.mp h
  obtain ⟨-, rfl⟩ := execWopen_next_iff.mp hw
  have hwait : t.seq = .atWait := perform_frame (f := fun u => u.seq)
    (fun i hi _ _ hexec => exec_seq_of_agent_ne_seq (by simp [henv i hi]) hexec) hrun
  have hlive : t.live = false := perform_keeps (P := fun u => u.live = false)
    (fun i hi _ _ hu hexec => exec_keeps_not_live (by simp [henv i hi]) hu hexec) rfl hrun
  have hfirst := perform_wclose_conv hwait
  rw [hlive, snapshot_failsafe, percents_of_failsafe] at hfirst
  exact ⟨_, _, hfirst, perform_mzero_mix_apply rfl, rfl, rfl, freshMotors_of_center rfl,
    (congrArg (PerMotor.map _) (freshMotors_of_center rfl)).trans (duties_of_zero_motors t.cfg), rfl⟩

/-- The rest of the four writes, in any order: each register takes its command, and the last write leads to EMIT. -/
theorem perform_dwrites {ms : List Motor} {s : State}
    (hseq : s.seq = if s.wmask = 0b1111#4 then .atEmit else .atWrite) (hnodup : ms.Nodup)
    (hmask : ∀ k, maskHas s.wmask k = true ↔ k ∉ ms)
    (hregs : ∀ k, maskHas s.wmask k = true → s.dutyReg.get k = s.dcmd.get k) :
    perform (ms.map Instr.dwrite) s = .next { s with dutyReg := s.dcmd, wmask := 0b1111#4, seq := .atEmit } := by
  induction ms generalizing s with
  | nil =>
    have hall : ∀ k, maskHas s.wmask k = true := fun k => (hmask k).mpr List.not_mem_nil
    have hfull := eq_full_iff_forall_maskHas.mpr hall
    have hreg : s.dutyReg = s.dcmd := PerMotor.ext_get fun k => hregs k (hall k)
    rw [if_pos hfull] at hseq
    rw [List.map_nil, perform_nil, ← hfull, ← hseq]
    exact congrArg (fun regs => Host.Outcome.next { s with dutyReg := regs }) hreg
  | cons m ms ih =>
    obtain ⟨hm, hnodup'⟩ := List.nodup_cons.mp hnodup
    have hfree : maskHas s.wmask m = false := by simpa using (hmask m).not.mpr (by simp)
    have hwrite : s.seq = .atWrite := by
      rw [hseq, if_neg fun hfull => ?_]
      simp [eq_full_iff_forall_maskHas.mp hfull m] at hfree
    have hstep := execDwrite_next_iff.mpr ⟨⟨hwrite, hfree⟩, rfl⟩
    have hmask' : ∀ k, maskHas (maskWith s.wmask m) k = true ↔ k ∉ ms := by
      intro k
      rw [maskHas_maskWith, Bool.or_eq_true, hmask, decide_eq_true_eq, List.mem_cons]
      by_cases hk : k = m
      · simp [hk, hm]
      · simp [hk]
    rw [List.map_cons, perform_cons_of_next hstep,
      ih (execDwrite_seq hstep) hnodup' hmask' (execDwrite_dutyReg_get hregs hstep)]
    rfl

/-- The state a cycle from its WCLOSE on ends in, when SEQ takes all its steps. -/
def State.cycled (s : State) : State :=
  let sampled : State := { s with
    stabW := snapshot s.live s.rawW
    pct := (snapshot s.live s.rawW).map fun w => storePct (percent w) }
  let duties := (freshMotors sampled).map fun v => duty s.cfg (shape v.toInt)
  { sampled with
    motor := freshMotors sampled
    dcmd := duties
    dutyReg := duties
    wmask := 0b1111#4
    tlm := s.tlm ++ tlmLine s.cfg sampled.stabW sampled.pct
    seq := .atOpen }

theorem perform_tail {s : State} {ms : List Motor} (hwait : s.seq = .atWait) (hms : ms.Perm [.m0, .m1, .m2, .m3]) :
    perform ([Instr.wclose, Instr.conv, Instr.mzero, Instr.mix, Instr.apply] ++ ms.map Instr.dwrite ++ [Instr.emit]) s =
      .next s.cycled := by
  have hall : ∀ m, m ∈ ms := fun m => hms.mem_iff.mpr (by cases m <;> decide)
  refine perform_append_next_iff.mpr ⟨_, perform_append_next_iff.mpr
    ⟨_, perform_append_next_iff.mpr ⟨_, perform_wclose_conv hwait, perform_mzero_mix_apply rfl⟩,
      perform_dwrites rfl (hms.nodup_iff.mpr (by decide)) (fun k => by simp [hall k])
        (fun k hk => by simp at hk)⟩, ?_⟩
  rw [perform_cons_of_next (execEmit_of_atEmit rfl), perform_nil]
  rfl

/-- Settles O32: every register named is written before it is read, so the end state is the same. -/
theorem cyclesAreStatelessInTheirOwnRegisters : Obligations.CyclesAreStatelessInTheirOwnRegisters :=
  fun s _ _ _ _ _ _ _ hwait hms => ⟨s.cycled, perform_tail hwait hms, perform_tail (by exact hwait) hms⟩

/-! ### The steps of a cycle (R133 to R135) -/

/-- Settles O29: each place of the cycle has its operation, and in WRITE a register the mask leaves. -/
theorem sequencerNeverStops : Obligations.SequencerNeverStops := by
  refine ⟨fun s hs => ?_, fun s hemit => ⟨_, execEmit_of_atEmit hemit, rfl⟩⟩
  cases hseq : s.seq with
  | atOpen => exact ⟨.wopen, rfl, enabled_wopen_iff.mpr hseq⟩
  | atWait => exact ⟨.wclose, rfl, enabled_wclose_iff.mpr hseq⟩
  | atConvert => exact ⟨.conv, rfl, enabled_conv_iff.mpr hseq⟩
  | atZero => exact ⟨.mzero, rfl, enabled_mzero_iff.mpr hseq⟩
  | atMix => exact ⟨.mix, rfl, enabled_mix_iff.mpr hseq⟩
  | atApply => exact ⟨.apply, rfl, enabled_apply_iff.mpr hseq⟩
  | atWrite =>
    obtain ⟨m, hm⟩ := exists_unwritten (hs hseq)
    exact ⟨.dwrite m, rfl, enabled_dwrite_iff.mpr ⟨hseq, hm⟩⟩
  | atEmit => exact ⟨.emit, rfl, enabled_emit_iff.mpr hseq⟩

/-- The SEQ operations of a cycle before its duty writes. -/
def beforeWrites : List Instr := [.wopen, .wclose, .conv, .mzero, .mix, .apply]

/-- `steps` are the SEQ operations of a cycle that has come from OPEN to the state `s`. -/
def CycleSteps (s : State) (steps : List Instr) : Prop :=
  match s.seq with
  | .atOpen => steps = []
  | .atWait => steps = [.wopen]
  | .atConvert => steps = [.wopen, .wclose]
  | .atZero => steps = [.wopen, .wclose, .conv]
  | .atMix => steps = [.wopen, .wclose, .conv, .mzero]
  | .atApply => steps = [.wopen, .wclose, .conv, .mzero, .mix]
  | .atWrite => ∃ ms : List Motor, steps = beforeWrites ++ ms.map .dwrite ∧ ms.Nodup ∧
      ∀ m, maskHas s.wmask m = true ↔ m ∈ ms
  | .atEmit => ∃ ms : List Motor, steps = beforeWrites ++ ms.map .dwrite ∧ ms.Perm [.m0, .m1, .m2, .m3]

/-- A duty write adds its motor to those written; the last one completes the four. -/
theorem cycleSteps_of_execDwrite {s t : State} {steps : List Instr} {m : Motor} (hs : CycleSteps s steps)
    (h : exec (.dwrite m) s = .next t) : CycleSteps t (steps ++ [.dwrite m]) := by
  have hnext := execDwrite_seq h
  obtain ⟨⟨hseq, hfree⟩, ht⟩ := execDwrite_next_iff.mp h
  simp only [CycleSteps, hseq] at hs
  obtain ⟨ms, rfl, hnodup, hmask⟩ := hs
  have hm : m ∉ ms := (hmask m).not.mp (by simp [hfree])
  have hsteps : beforeWrites ++ ms.map .dwrite ++ [.dwrite m] = beforeWrites ++ (ms ++ [m]).map .dwrite := by simp
  have hnodup' : (ms ++ [m]).Nodup := by
    rw [← List.concat_eq_append]
    exact hnodup.concat hm
  have hmask' : ∀ k, maskHas t.wmask k = true ↔ k ∈ ms ++ [m] := by
    intro k
    simp [ht, maskHas_maskWith, hmask]
  rw [hsteps]
  by_cases hfull : t.wmask = 0b1111#4
  · rw [if_pos hfull] at hnext
    simp only [CycleSteps, hnext]
    refine ⟨_, rfl, (List.perm_ext_iff_of_nodup hnodup' (by decide)).mpr fun k => ?_⟩
    rw [← hmask', eq_full_iff_forall_maskHas.mp hfull k]
    cases k <;> decide
  · rw [if_neg hfull] at hnext
    simp only [CycleSteps, hnext]
    exact ⟨_, rfl, hnodup', hmask'⟩

theorem cycleSteps_of_exec {i : Instr} {s t : State} {steps : List Instr} (hi : i.agent = .seq) (hemit : i ≠ .emit)
    (hs : CycleSteps s steps) (h : exec i s = .next t) : CycleSteps t (steps ++ [i]) := by
  cases i with
  | wopen =>
    obtain ⟨hseq, rfl⟩ := execWopen_next_iff.mp h
    obtain rfl : steps = _ := by simpa only [CycleSteps, hseq] using hs
    rfl
  | wclose =>
    obtain ⟨hseq, rfl⟩ := execWclose_next_iff.mp h
    obtain rfl : steps = _ := by simpa only [CycleSteps, hseq] using hs
    rfl
  | conv =>
    obtain ⟨hseq, rfl⟩ := execConv_next_iff.mp h
    obtain rfl : steps = _ := by simpa only [CycleSteps, hseq] using hs
    rfl
  | mzero =>
    obtain ⟨hseq, rfl⟩ := execMzero_next_iff.mp h
    obtain rfl : steps = _ := by simpa only [CycleSteps, hseq] using hs
    rfl
  | mix =>
    obtain ⟨hseq, rfl⟩ := execMix_next_iff.mp h
    obtain rfl : steps = _ := by simpa only [CycleSteps, hseq] using hs
    rfl
  | apply =>
    obtain ⟨hseq, rfl⟩ := execApply_next_iff.mp h
    obtain rfl : steps = _ := by simpa only [CycleSteps, hseq] using hs
    exact ⟨[], rfl, List.nodup_nil, fun m => by simp⟩
  | dwrite m => exact cycleSteps_of_execDwrite hs h
  | emit => exact absurd rfl hemit
  | _ => cases hi

theorem seqSteps_cons_of_seq {i : Instr} (hi : i.agent = .seq) (is : List Instr) :
    seqSteps (i :: is) = i :: seqSteps is := by
  simp [seqSteps, hi]

theorem seqSteps_cons_of_ne_seq {i : Instr} (hi : i.agent ≠ .seq) (is : List Instr) :
    seqSteps (i :: is) = seqSteps is := by
  simp [seqSteps, hi]

theorem cycleSteps_of_perform {ops : List Instr} {s t : State} {steps : List Instr} (hemit : Instr.emit ∉ ops)
    (hs : CycleSteps s steps) (h : perform ops s = .next t) : CycleSteps t (steps ++ seqSteps ops) := by
  induction ops generalizing s steps with
  | nil =>
    obtain rfl : s = t := by simpa using h
    simpa [seqSteps] using hs
  | cons i ops ih =>
    obtain ⟨u, hu, hrest⟩ := perform_cons_next_iff.mp h
    obtain ⟨hi, hemit'⟩ := List.ne_and_not_mem_of_not_mem_cons hemit
    by_cases hagent : i.agent = .seq
    · rw [seqSteps_cons_of_seq hagent, List.append_cons]
      exact ih hemit' (cycleSteps_of_exec hagent (Ne.symm hi) hs hu) hrest
    · rw [seqSteps_cons_of_ne_seq hagent]
      refine ih hemit' ?_ hrest
      obtain ⟨_, _, _, _, _, _, _, _, _, rfl⟩ := exec_of_agent_ne_seq hagent hu
      exact hs

/-- Settles O30: the steps so far, kept along the run, are at EMIT all of the cycle's; and SEQ alone can take them in
every order of the writes. -/
theorem oneCycleIsElevenSequencerSteps : Obligations.OneCycleIsElevenSequencerSteps := by
  refine ⟨fun s t ops hopen hemit h => ?_, fun s ms hopen hms => ?_⟩
  · obtain ⟨u, hu, hlast⟩ := perform_append_next_iff.mp h
    have hstart : CycleSteps s [] := by simp only [CycleSteps, hopen]
    have hsteps := cycleSteps_of_perform hemit hstart hu
    obtain ⟨v, hv, -⟩ := perform_cons_next_iff.mp hlast
    obtain ⟨hseq, -⟩ := execEmit_next_iff.mp hv
    simp only [CycleSteps, hseq, List.nil_append] at hsteps
    obtain ⟨ms, hsteps, hms⟩ := hsteps
    have hall : seqSteps (ops ++ [Instr.emit]) = beforeWrites ++ ms.map Instr.dwrite ++ [Instr.emit] := by
      rw [← hsteps]
      simp [seqSteps, Instr.agent]
    refine ⟨ms, hms, hall, ?_⟩
    rw [hall]
    simp [beforeWrites, hms.length_eq]
  · have hwopen := execWopen_next_iff.mpr ⟨hopen, rfl⟩
    exact ⟨_, perform_cons_next_iff.mpr ⟨_, hwopen, perform_tail rfl hms⟩⟩

end Sys2Proof.Machine
end

section
/-! ## The cycle as a function, and its repetition (R138, R145)

What a whole cycle computes among the steps of the other agents, and why a fair sequencer never stays in one. -/

namespace Sys2Proof.Machine

open Sys2Proof.Safety

/-! ### The cycle's results (R145) -/

theorem mem_seqSteps {i : Instr} {is : List Instr} : i ∈ seqSteps is ↔ i ∈ is ∧ i.agent = .seq := by
  simp [seqSteps]

theorem notMem_of_notMem_seqSteps {i : Instr} {is : List Instr} (hi : i.agent = .seq) (h : i ∉ seqSteps is) :
    i ∉ is := fun hmem => h (mem_seqSteps.mpr ⟨hmem, hi⟩)

/-- Between a cycle's WCLOSE and its EMIT the widths, the output and the parameters stay. -/
theorem perform_of_notMem_wclose_emit {is : List Instr} {s t : State} (hclose : Instr.wclose ∉ is)
    (hemit : Instr.emit ∉ is) (h : perform is s = .next t) : t.stabW = s.stabW ∧ t.tlm = s.tlm ∧ t.cfg = s.cfg :=
  ⟨perform_frame (fun _ hi _ _ hexec => exec_stabW_of_ne hexec (ne_of_mem_of_not_mem hi hclose)) h,
    perform_frame (fun _ hi _ _ hexec => exec_tlm_of_ne_emit hexec (ne_of_mem_of_not_mem hi hemit)) h,
    perform_cfg h⟩

/-- The first part of a cycle, up to its MIX. -/
theorem perform_sampling {s u : State} {before : List Instr} (hsteps : seqSteps before = [.conv, .mzero])
    (h : perform (.wclose :: before) s = .next u) :
    CycleOk u ∧ u.stabW = snapshot s.live s.rawW ∧ u.tlm = s.tlm ∧ u.cfg = s.cfg := by
  obtain ⟨v, hv, hrun⟩ := perform_cons_next_iff.mp h
  obtain ⟨-, rfl⟩ := execWclose_next_iff.mp hv
  have hclose : Instr.wclose ∉ before := notMem_of_notMem_seqSteps rfl (by simp [hsteps])
  have hemit : Instr.emit ∉ before := notMem_of_notMem_seqSteps rfl (by simp [hsteps])
  exact ⟨perform_keeps (fun i _ => exec_keeps_cycleOk i) (cycleOk_of_atConvert rfl) hrun,
    perform_of_notMem_wclose_emit hclose hemit hrun⟩

/-- The second part of a cycle, from its MIX up to its EMIT: the motor percents are those of the frame at the MIX. -/
theorem perform_driving {u v : State} {ops : List Instr} {ms : List Motor} (hcycle : CycleOk u)
    (hsteps : seqSteps ops = .apply :: ms.map .dwrite) (h : perform (.mix :: ops) u = .next v) :
    CycleOk v ∧ (v.stabW = u.stabW ∧ v.tlm = u.tlm ∧ v.cfg = u.cfg) ∧ ∀ m, (v.motor.get m).toInt =
      (mixFrame u.framePin ⟨0, 0, 0, 0⟩ (percent u.stabW.pitch) (percent u.stabW.roll)).get m := by
  have hall : seqSteps (.mix :: ops) = .mix :: .apply :: ms.map .dwrite := by rw [seqSteps_cons_of_seq rfl, hsteps]
  have hclose : Instr.wclose ∉ .mix :: ops := notMem_of_notMem_seqSteps rfl (by simp [hall])
  have hemit : Instr.emit ∉ .mix :: ops := notMem_of_notMem_seqSteps rfl (by simp [hall])
  have hzero : Instr.mzero ∉ ops := notMem_of_notMem_seqSteps rfl (by simp [hsteps])
  have hmix : Instr.mix ∉ ops := notMem_of_notMem_seqSteps rfl (by simp [hsteps])
  refine ⟨perform_keeps (fun i _ => exec_keeps_cycleOk i) hcycle h, perform_of_notMem_wclose_emit hclose hemit h,
    fun m => ?_⟩
  obtain ⟨w, hw, hrun⟩ := perform_cons_next_iff.mp h
  have hmotor : v.motor = w.motor := perform_frame (fun _ hi _ _ hexec =>
    exec_motor_of_ne hexec (ne_of_mem_of_not_mem hi hzero) (ne_of_mem_of_not_mem hi hmix)) hrun
  obtain ⟨hseq, -⟩ := execMix_next_iff.mp hw
  obtain ⟨hpercents, hzeroed⟩ := (cycleOk_iff_of_atMix hseq).mp hcycle
  rw [hmotor, execMix_motor_get hpercents hzeroed hw]

theorem perform_of_seqSteps_eq_nil {is : List Instr} {s t : State} (his : seqSteps is = [])
    (h : perform is s = .next t) : SameCycle s t := by
  refine perform_keeps (P := SameCycle s) (fun i hi u v hu hexec => ?_) (SameCycle.refl s) h
  have hagent : i.agent ≠ .seq := fun hseq => by simpa [his] using mem_seqSteps.mpr ⟨hi, hseq⟩
  exact hu.trans (exec_of_agent_ne_seq hagent hexec)

/-- A run whose SEQ steps end in EMIT, cut at it. -/
theorem exists_split_at_emit {is steps : List Instr} (h : seqSteps is = steps ++ [.emit]) :
    ∃ first last, is = first ++ .emit :: last ∧ seqSteps first = steps ∧ seqSteps last = [] := by
  obtain ⟨first, rest, rfl, hfirst, hrest⟩ := List.filter_eq_append_iff.mp h
  obtain ⟨idle, last, rfl, hidle, -, hlast⟩ := List.filter_eq_cons_iff.mp hrest
  refine ⟨first ++ idle, last, by simp, ?_, hlast⟩
  have hnone : seqSteps idle = [] := List.filter_eq_nil_iff.mpr hidle
  rw [seqSteps, List.filter_append, hfirst, ← seqSteps, hnone, List.append_nil]

/-- What EMIT finds at the end of a cycle, in terms of the widths and the motor percents. -/
theorem results_of_atEmit {v : State} (hcycle : CycleOk v) (hseq : v.seq = .atEmit) :
    PercentsOk v ∧ ∀ m, v.dutyReg.get m = duty v.cfg (shape (v.motor.get m).toInt) := by
  obtain ⟨hpercents, -, hcommands, -, hregs⟩ := (cycleOk_iff_of_atEmit hseq).mp hcycle
  exact ⟨hpercents, fun m => by rw [hregs, hcommands m]⟩

/-- Settles O31: WCLOSE fixes the widths, MIX the frame, and the invariant of the cycle gives the rest at EMIT, which
the steps after it leave. -/
theorem cycleComputesItsFunction : Obligations.CycleComputesItsFunction := by
  intro s u t before after ms stab mixed hwait hbefore hu hafter ht hstab hmixed
  obtain ⟨first, last, rfl, hfirst, hlast⟩ := exists_split_at_emit (steps := .apply :: ms.map .dwrite) hafter
  obtain ⟨hcycle, hwidths, htlm, hcfg⟩ := perform_sampling hbefore hu
  obtain ⟨v, hv, hrest⟩ := perform_append_next_iff (is := .mix :: first).mp ht
  obtain ⟨hcycle', ⟨hwidths', htlm', hcfg'⟩, hmotors⟩ := perform_driving hcycle hfirst hv
  obtain ⟨w, hw, hidle⟩ := perform_cons_next_iff.mp hrest
  obtain ⟨hseq, rfl⟩ := execEmit_next_iff.mp hw
  obtain ⟨hpercents, hregs⟩ := results_of_atEmit hcycle' hseq
  obtain ⟨_, _, _, _, _, _, _, _, _, rfl⟩ := perform_of_seqSteps_eq_nil hlast hidle
  obtain rfl : stab = v.stabW := by
    rw [hwidths', hwidths, hstab]
    rfl
  obtain rfl : mixed = mixFrame u.framePin ⟨0, 0, 0, 0⟩ (percent v.stabW.pitch) (percent v.stabW.roll) := by
    rw [hmixed]
    cases u.framePin <;> rfl
  rw [← hwidths'] at hmotors
  refine ⟨rfl, hpercents .pitch, hpercents .roll, hmotors, fun m => ?_, ?_, rfl⟩
  · rw [← hmotors m, ← hcfg, ← hcfg']
    exact hregs m
  · rw [← htlm, ← htlm', ← hcfg, ← hcfg']
    rfl

/-! ### Fair runs (R138) -/

/-- The duty registers the mask leaves to write. -/
def unwritten (mask : BitVec 4) : Nat := [Motor.m0, .m1, .m2, .m3].countP fun m => !maskHas mask m

/-- The number of SEQ steps before the next EMIT. -/
def stepsToEmit (s : State) : Nat :=
  match s.seq with
  | .atOpen => 10
  | .atWait => 9
  | .atConvert => 8
  | .atZero => 7
  | .atMix => 6
  | .atApply => 5
  | .atWrite => unwritten s.wmask
  | .atEmit => 0

theorem unwritten_pos {mask : BitVec 4} {m : Motor} (h : maskHas mask m = false) : 0 < unwritten mask :=
  List.countP_pos_iff.mpr ⟨m, by cases m <;> decide, by simp [h]⟩

/-- A write takes its own register out of the count and no other. -/
theorem unwritten_maskWith_lt {mask : BitVec 4} {m : Motor} (h : maskHas mask m = false) :
    unwritten (maskWith mask m) < unwritten mask := by
  have hbit (k : Motor) : (!maskHas (maskWith mask m) k) = (!maskHas mask k && decide (k ≠ m)) := by
    rw [maskHas_maskWith]
    simp
  simp only [unwritten, hbit]
  cases m <;> simp [List.countP_cons, h]

theorem stepsToEmit_of_atWrite {s : State} (h : s.seq = .atWrite) : stepsToEmit s = unwritten s.wmask := by
  simp only [stepsToEmit, h]

theorem stepsToEmit_of_sameCycle {s t : State} (h : SameCycle s t) : stepsToEmit t = stepsToEmit s := by
  obtain ⟨_, _, _, _, _, _, _, _, _, rfl⟩ := h
  rfl

/-- Every SEQ step of a cycle brings its EMIT nearer. -/
theorem stepsToEmit_lt {i : Instr} {s t : State} (hi : i.agent = .seq) (hemit : i ≠ .emit) (h : exec i s = .next t) :
    stepsToEmit t < stepsToEmit s := by
  cases i with
  | wopen => simp [stepsToEmit, execWopen_next_iff.mp h]
  | wclose => simp [stepsToEmit, execWclose_next_iff.mp h]
  | conv => simp [stepsToEmit, execConv_next_iff.mp h]
  | mzero => simp [stepsToEmit, execMzero_next_iff.mp h]
  | mix => simp [stepsToEmit, execMix_next_iff.mp h]
  | apply =>
    have hfresh : unwritten 0b0000#4 < 5 := by decide
    simpa [stepsToEmit, execApply_next_iff.mp h] using hfresh
  | dwrite m =>
    have hnext := execDwrite_seq h
    obtain ⟨⟨hseq, hfree⟩, ht⟩ := execDwrite_next_iff.mp h
    have hmask : t.wmask = maskWith s.wmask m := by simp [ht]
    rw [stepsToEmit_of_atWrite hseq]
    split at hnext
    · simpa only [stepsToEmit, hnext] using unwritten_pos hfree
    · simpa only [stepsToEmit_of_atWrite hnext, hmask] using unwritten_maskWith_lt hfree
  | emit => exact absurd rfl hemit
  | _ => cases hi

section
variable {ops : Nat → Instr} {states : Nat → State}

theorem writeOk_of_infiniteRun (hrun : InfiniteRun ops states) (h0 : WriteOk (states 0)) (n : Nat) :
    WriteOk (states n) := by
  induction n with
  | zero => exact h0
  | succ n ih => exact exec_keeps_writeOk (ops n) _ _ ih (hrun n)

/-- As long as no EMIT is taken, it comes no further away. -/
theorem stepsToEmit_le_of_no_emit (hrun : InfiniteRun ops states) {n k : Nat} (hk : n ≤ k)
    (hnot : ∀ j, n ≤ j → j < k → ops j ≠ .emit) : stepsToEmit (states k) ≤ stepsToEmit (states n) := by
  induction k, hk using Nat.le_induction with
  | base => exact le_rfl
  | succ k hk ih =>
    have hle := ih fun j hj hjk => hnot j hj (by omega)
    refine le_trans ?_ hle
    by_cases hi : (ops k).agent = .seq
    · exact (stepsToEmit_lt hi (hnot k hk (by omega)) (hrun k)).le
    · exact (stepsToEmit_of_sameCycle (exec_of_agent_ne_seq hi (hrun k))).le

/-- A fair run takes a SEQ step after every point, since one is always enabled. -/
theorem exists_seq_step (hrun : InfiniteRun ops states) (h0 : WriteOk (states 0)) (hfair : FairToSeq ops states)
    (n : Nat) : ∃ k, n ≤ k ∧ (ops k).agent = .seq := by
  obtain ⟨k, hk, htaken | hnone⟩ := hfair n
  · exact ⟨k, hk, htaken⟩
  · obtain ⟨goesOn, -⟩ := sequencerNeverStops
    obtain ⟨i, hi, henabled⟩ := goesOn (states k) (writeOk_of_infiniteRun hrun h0 k)
    exact absurd henabled (hnone i hi)

/-- By induction on the distance to the next EMIT: a SEQ step is taken, and it is EMIT or shortens the distance. -/
theorem exists_emit (hrun : InfiniteRun ops states) (h0 : WriteOk (states 0)) (hfair : FairToSeq ops states) (n : Nat) :
    ∃ k, n ≤ k ∧ ops k = .emit := by
  induction hd : stepsToEmit (states n) using Nat.strong_induction_on generalizing n with
  | _ d ih =>
    by_contra hnever
    have hnot : ∀ j, n ≤ j → ops j ≠ .emit := fun j hj hemit => hnever ⟨j, hj, hemit⟩
    obtain ⟨k, hk, hseq⟩ := exists_seq_step hrun h0 hfair n
    have hle := stepsToEmit_le_of_no_emit hrun hk fun j hj _ => hnot j hj
    have hlt := stepsToEmit_lt hseq (hnot k hk) (hrun k)
    obtain ⟨l, hl, hemit⟩ := ih _ (by omega) (k + 1) rfl
    exact hnot l (by omega) hemit

end

/-- Settles O33, from any state with a sound mask, which the reset table gives. -/
theorem fairRunsEmitForEver : Obligations.FairRunsEmitForEver := by
  refine ⟨fun ops states h0 hrun hfair => exists_emit hrun h0 hfair, fun ops states hreset hrun hfair => ?_⟩
  obtain ⟨-, -, -, -, -, -, -, hopen, -⟩ := hreset
  obtain ⟨hseq, -⟩ := hfair
  exact exists_emit hrun (fun hwrite => by simp [hopen] at hwrite) hseq

end Sys2Proof.Machine
end

section
/-! ## Reset, and the ranges of every run from it (R48, R169 to R173)

The reset table meets the invariants, so they hold of every state a run reaches; the elements it leaves unspecified
have their ranges from their first write on. -/

namespace Sys2Proof.Machine

open Sys2Proof.Safety

/-! ### The reset table (R169) -/

theorem isReset_resetWith {cfg : Config} (h : cfg.wf = true) : (State.resetWith cfg).IsReset := by
  have htick : 0 < 2 ^ cfg.tickW := Nat.two_pow_pos _
  have hduty : 0 < 2 ^ cfg.dutyW := Nat.two_pow_pos _
  exact ⟨h, rfl, rfl, rfl, rfl, rfl, rfl, rfl, rfl, rfl, rfl, rfl, rfl, ⟨htick, htick⟩, ⟨htick, htick⟩,
    ⟨hduty, hduty, hduty, hduty⟩⟩

/-- Settles O53: the rows of the table, read from the reset states and from every state that meets it. -/
theorem resetTableHolds : Obligations.ResetTableHolds := by
  refine ⟨fun cfg hwf => isReset_resetWith hwf, isReset_resetWith (by decide), fun s hs => ?_⟩
  obtain ⟨-, htick, hpins, hphase, hraw, hlive, hpend, hseq, hmask, hframe, hreg, hact, htlm, -⟩ := hs
  refine ⟨htick, hpins, hframe, hreg, hact, ?_⟩
  simp [State.observe, channelValues, hphase, hraw, hlive, hpend, hseq, hmask, htlm, phaseBit, flagBit, seqCode]

section
variable {s : State}

theorem State.IsReset.wf (h : s.IsReset) : s.cfg.wf = true := by
  obtain ⟨hwf, -⟩ := h
  exact hwf

theorem State.IsReset.tick_lt (h : s.IsReset) : s.tick < 2 ^ s.cfg.tickW := by
  obtain ⟨hwf, htick, -⟩ := h
  obtain ⟨-, hinit, -⟩ := Config.wf_iff.mp hwf
  rwa [htick]

theorem State.IsReset.phase_get (h : s.IsReset) (c : Channel) : s.phase.get c = .awaitingRising := by
  obtain ⟨-, -, -, hphase, -⟩ := h
  rw [hphase]
  cases c <;> rfl

theorem State.IsReset.pend_get (h : s.IsReset) (c : Channel) : s.pend.get c = false := by
  obtain ⟨-, -, -, -, -, -, hpend, -⟩ := h
  rw [hpend]
  cases c <;> rfl

theorem State.IsReset.seq_eq (h : s.IsReset) : s.seq = .atOpen := by
  obtain ⟨-, -, -, -, -, -, -, hseq, -⟩ := h
  exact hseq

theorem State.IsReset.dutyReg_get_le (h : s.IsReset) (m : Motor) : s.dutyReg.get m ≤ s.cfg.dutyFull := by
  obtain ⟨hwf, -, -, -, -, -, -, -, -, -, hreg, -⟩ := h
  obtain ⟨-, -, -, -, hinit⟩ := Config.wf_iff.mp hwf
  rw [hreg]
  exact hinit m

theorem State.IsReset.dutyAct_get_le (h : s.IsReset) (m : Motor) : s.dutyAct.get m ≤ s.cfg.dutyFull := by
  obtain ⟨hwf, -, -, -, -, -, -, -, -, -, -, hact, -⟩ := h
  obtain ⟨-, -, -, -, hinit⟩ := Config.wf_iff.mp hwf
  rw [hact]
  exact hinit m

theorem State.IsReset.widthsOk (h : s.IsReset) : WidthsOk s := by
  have hwf := h.wf
  have htick := h.tick_lt
  have hreg m := Config.le_dutyFull_lt_of_wf hwf (h.dutyReg_get_le m)
  have hact m := Config.le_dutyFull_lt_of_wf hwf (h.dutyAct_get_le m)
  obtain ⟨-, -, -, -, hraw, -, -, -, -, -, -, -, -, ⟨hsp, hsr⟩, ⟨hwp, hwr⟩, hd0, hd1, hd2, hd3⟩ := h
  refine ⟨hwf, htick, fun c => ?_, fun c => ?_, fun c => ?_, fun m => ?_, hreg, hact⟩
  · cases c <;> assumption
  · rw [hraw]
    cases c <;> exact Nat.two_pow_pos _
  · cases c <;> assumption
  · cases m <;> assumption

theorem State.IsReset.dutiesOk (h : s.IsReset) : DutiesOk s :=
  ⟨h.dutyReg_get_le, h.dutyAct_get_le, fun hwrite => by simp [h.seq_eq] at hwrite⟩

theorem State.IsReset.writeOk (h : s.IsReset) : WriteOk s := fun hwrite => by simp [h.seq_eq] at hwrite

theorem State.IsReset.cycleOk (h : s.IsReset) : CycleOk s := cycleOk_of_atOpen h.seq_eq

end

/-- Settles O52: the bounds of the parameters give the widths and the duties, and at OPEN nothing is computed yet. -/
theorem resetMeetsTheInvariants : Obligations.ResetMeetsTheInvariants :=
  fun _ hs => ⟨hs.widthsOk, hs.dutiesOk, hs.writeOk, hs.cycleOk⟩

/-! ### The first operations (R170, R171, R173) -/

/-- Settles O54: `SEQ` is at OPEN, nothing is pending, and both phases are armed for the rise. -/
theorem firstOperationAfterReset : Obligations.FirstOperationAfterReset := by
  intro s hs
  refine ⟨fun i hi => ?_, fun c => ?_, fun c hlow => ?_⟩
  · obtain ⟨table, -⟩ := sequencerFollowsItsTable
    rw [table s i hi]
    simp [hs.seq_eq]
  · rw [enabled_svc_iff, hs.pend_get]
    decide
  · have hrise := execEdge_of_levelBefore (pol := .rise) hlow
    rw [if_pos (by rw [hs.phase_get]; rfl)] at hrise
    exact ⟨_, hrise, enabled_svc_iff.mpr (PerChannel.get_set_same _ _ _)⟩

/-- Settles O55: the fall is not of the armed polarity, and leaves the channel as a pulse from its rise needs it. -/
theorem pulseInProgressAtResetIsNotMeasured : Obligations.PulseInProgressAtResetIsNotMeasured := by
  intro s c hs hhigh
  have hfall := execEdge_of_levelBefore (pol := .fall) hhigh
  rw [if_neg (by rw [hs.phase_get]; decide)] at hfall
  refine ⟨hfall, fun n => ?_⟩
  have hpulse := perform_pulse (s := { s with rcLvl := s.rcLvl.set c .low }) n hs.tick_lt
    (PerChannel.get_set_same _ _ _) (hs.phase_get c) (hs.pend_get c)
  exact ⟨_, (perform_cons_of_next hfall _).trans hpulse, PerChannel.get_set_same _ _ _⟩

/-! ### The ranges after the first write (R48) -/

/-- What an operation establishes and every operation keeps holds after a run that took it; `I` is an invariant the
two may use. -/
theorem perform_establishes {I P : State → Prop} {j : Instr}
    (invariant : ∀ (i : Instr) (s t : State), I s → exec i s = .next t → I t)
    (establish : ∀ s t : State, I s → exec j s = .next t → P t)
    (keep : ∀ (i : Instr) (s t : State), I s → P s → exec i s = .next t → P t)
    {ops : List Instr} {s t : State} (hs : I s) (h : perform ops s = .next t) (hj : j ∈ ops) : P t := by
  obtain ⟨first, last, rfl⟩ := List.append_of_mem hj
  obtain ⟨u, hu, hrest⟩ := perform_append_next_iff.mp h
  obtain ⟨v, hv, hlast⟩ := perform_cons_next_iff.mp hrest
  have hIu : I u := perform_keeps (fun i _ => invariant i) hs hu
  obtain ⟨-, hP⟩ := perform_keeps (P := fun w => I w ∧ P w)
    (fun i _ w w' ⟨hIw, hPw⟩ hexec => ⟨invariant i w w' hIw hexec, keep i w w' hIw hPw hexec⟩)
    ⟨invariant j u v hIu hv, establish u v hIu hv⟩ hlast
  exact hP

/-- The range of a percent (R38). -/
def PercentsInRange (s : State) : Prop := ∀ c, -100 ≤ (s.pct.get c).toInt ∧ (s.pct.get c).toInt ≤ 100

/-- The range of a motor percent (R40). -/
def MotorsInRange (s : State) : Prop := ∀ m, 0 ≤ (s.motor.get m).toInt ∧ (s.motor.get m).toInt ≤ 200

/-- The range of a duty command (R41, R124). -/
def CommandsInRange (s : State) : Prop := ∀ m, s.dcmd.get m = 0 ∨
  ((5 * s.cfg.dutyFull + 50) / 100 ≤ s.dcmd.get m ∧ s.dcmd.get m ≤ s.cfg.dutyFull)

theorem percentsInRange_of_execConv {s t : State} (h : exec .conv s = .next t) : PercentsInRange t := by
  intro c
  rw [percentsOk_of_execConv h c]
  exact percent_bounds _

theorem exec_keeps_percentsInRange {i : Instr} {s t : State} (hs : PercentsInRange s) (h : exec i s = .next t) :
    PercentsInRange t := by
  by_cases hi : i = .conv
  · subst hi
    exact percentsInRange_of_execConv h
  · intro c
    rw [exec_pct_of_ne h hi]
    exact hs c

theorem motorsInRange_of_execMzero {s t : State} (h : exec .mzero s = .next t) : MotorsInRange t := by
  obtain ⟨-, rfl⟩ := execMzero_next_iff.mp h
  intro m
  rw [State.setSeq_motor, State.setMotor_motor, get_zeroMotors]
  decide

/-- MIX adds to the zeros of MZERO, so its sums are those of two percents. -/
theorem exec_keeps_motorsInRange {i : Instr} {s t : State} (hcycle : CycleOk s) (hs : MotorsInRange s)
    (h : exec i s = .next t) : MotorsInRange t := by
  by_cases hzero : i = .mzero
  · subst hzero
    exact motorsInRange_of_execMzero h
  by_cases hmix : i = .mix
  · subst hmix
    obtain ⟨hseq, -⟩ := execMix_next_iff.mp h
    obtain ⟨hpercents, hzeroed⟩ := (cycleOk_iff_of_atMix hseq).mp hcycle
    intro m
    rw [execMix_motor_get hpercents hzeroed h]
    exact mixFrame_zero_bounds (percent_bounds _) (percent_bounds _) _ m
  · intro m
    rw [exec_motor_of_ne h hzero hmix]
    exact hs m

theorem commandsInRange_of_execApply {s t : State} (h : exec .apply s = .next t) : CommandsInRange t := by
  intro m
  rw [execApply_dcmd_get h, exec_cfg h]
  exact duty_shape_eq_zero_or_bounds _ _

theorem exec_keeps_commandsInRange {i : Instr} {s t : State} (hs : CommandsInRange s) (h : exec i s = .next t) :
    CommandsInRange t := by
  by_cases hi : i = .apply
  · subst hi
    exact commandsInRange_of_execApply h
  · intro m
    rw [exec_dcmd_of_ne h hi, exec_cfg h]
    exact hs m

/-- Settles O56: the invariants hold along the run, and each range from the first write of its element on. -/
theorem rangesHoldAfterTheFirstWrite : Obligations.RangesHoldAfterTheFirstWrite := by
  intro s₀ s ops hreset h
  have hcycle : CycleOk s := perform_keeps (fun i _ => exec_keeps_cycleOk i) hreset.cycleOk h
  obtain ⟨hreg, hact, -⟩ : DutiesOk s := perform_keeps (fun i _ => exec_keeps_duties i) hreset.dutiesOk h
  refine ⟨fun hconv => ?_, fun hmzero => ?_, fun hseq => ?_, fun happly => ?_, fun m => ⟨hreg m, hact m⟩,
    perform_keeps (fun i _ => exec_keeps_widths i) hreset.widthsOk h⟩
  · exact perform_establishes (I := fun _ => True) (P := PercentsInRange) (fun _ _ _ _ _ => trivial)
      (fun _ _ _ => percentsInRange_of_execConv) (fun _ _ _ _ => exec_keeps_percentsInRange) trivial h hconv
  · exact perform_establishes (P := MotorsInRange) exec_keeps_cycleOk
      (fun _ _ _ => motorsInRange_of_execMzero) (fun _ _ _ => exec_keeps_motorsInRange) hreset.cycleOk h hmzero
  · obtain ⟨-, hzero⟩ := (cycleOk_iff_of_atMix hseq).mp hcycle
    exact hzero
  · exact perform_establishes (I := fun _ => True) (P := CommandsInRange) (fun _ _ _ _ _ => trivial)
      (fun _ _ _ => commandsInRange_of_execApply) (fun _ _ _ _ => exec_keeps_commandsInRange) trivial h happly

end Sys2Proof.Machine
end
